-- ==== Sys2Proof/Word.lean ====
section
/-! DEFINITION. The fixed word types of the Link Port transceiver (00_scope.md R7, "Fixed widths"). The widths that are
parameters (`W_T`, `W_DUR`) stand in Config.lean. -/

namespace Sys2Proof

/-- A note value, 0 to 63 (00_scope.md R7: "note values are 6 bits"). -/
abbrev Note := BitVec 6

/-- The levels of the 7 link lines, bit `i` being line `L[i]` (30_encoding.md R61). -/
abbrev Lines := BitVec 7

/-- The response register's width (00_scope.md R7). -/
abbrev Response := BitVec 8

/-- `{7'b0000000, b}`: a one-bit answer in the response register (44_host_commands.md R129 to R131). -/
abbrev bitResponse (b : Bool) : Response := (BitVec.ofBool b).setWidth 8

end Sys2Proof
end

