-- ==== Sys2Proof/Config.lean ====
section
/-! DEFINITION. What is fixed for one machine (00_scope.md R7) and the free values: the input levels of the cycles that the
environment's schedule does not list. -/

namespace Sys2Proof

/-- The implementation parameters of 00_scope.md R7. "A model takes every one of them as an argument; every rule is written
in terms of the names." They are held in `State.cfg` (log entry 4). -/
structure Params where
  /-- `W_T`: width of `NOW` and of every timer stamp. -/
  wT : Nat
  /-- `W_DUR`: width of `dur_i` and of `WDUR`. -/
  wDur : Nat
  /-- `T_ON`: pulse-on width in time units. -/
  tOn : Nat
  /-- `T_OFF`: pulse-off width in time units. -/
  tOff : Nat
  /-- `T_REL`: release hysteresis threshold in time units. -/
  tRel : Nat
deriving DecidableEq, Repr

/-- The defaults of 00_scope.md R7. -/
abbrev Params.defaults : Params := { wT := 32, wDur := 16, tOn := 2, tOff := 16, tRel := 25 }

/-- `Pd = T_ON + T_OFF + 2`, the pulse period in time units (43_write_path.md R117). -/
def Params.pulsePeriod (p : Params) : Nat := p.tOn + p.tOff + 2

/-- `NOTE_MAX` (00_scope.md R7): the largest playable note code. -/
abbrev noteMax : BitVec 8 := 48#8

/-- DESIGN CHOICE (log entry 2). The environment's inputs are free (00_scope.md R5). In a cycle that the schedule does not
list they are these free values, indexed by the model's own cycle counter. Nothing constrains them. -/
opaque Config.freeTick : Nat → Bool
/-- Free level of `cmd_i`, see `Config.freeTick`. -/
opaque Config.freeCmd : Nat → BitVec 3
/-- Free level of `note_i`, see `Config.freeTick`. -/
opaque Config.freeNote : Nat → BitVec 8
/-- Free level of `dur_i` at width `w`, see `Config.freeTick`. -/
opaque Config.freeDur (w : Nat) : Nat → BitVec w
/-- Free level of `link_in_i`, see `Config.freeTick`. -/
opaque Config.freeLink : Nat → Lines

end Sys2Proof
end

