-- ==== Sys2Proof/Syntax.lean ====
section
/-! DEFINITION. The host commands (30_encoding.md R56): one constructor per row of spec/opcode_table.json, the assembler's
text and its pseudo-instructions (30_encoding.md R66). -/

namespace Sys2Proof

/-- A host command. Only WRITE has operands (30_encoding.md R60). The duration's width is the parameter `W_DUR`, so here it
is a number and `Instr.wf` bounds it (log entry 7). -/
inductive Instr where
  | nop
  | write (note : BitVec 8) (dur : Nat)
  | read
  | isplay
  | isread
  | istrig
  | rsvd6
  | rsvd7
deriving DecidableEq, Repr

/-- The mnemonic, as 30_encoding.md R56 and spec/opcode_table.json spell it. -/
def Instr.mnemonic : Instr → String
  | .nop => "NOP"
  | .write _ _ => "WRITE"
  | .read => "READ"
  | .isplay => "ISPLAY"
  | .isread => "ISREAD"
  | .istrig => "ISTRIG"
  | .rsvd6 => "RSVD6"
  | .rsvd7 => "RSVD7"

/-- The assembler line, operands in decimal and comma-separated (30_encoding.md R66). -/
def Instr.asm : Instr → String
  | .write note dur => "WRITE " ++ toString note.toNat ++ ", " ++ toString dur
  | i => i.mnemonic

/-- `REST <dur>` = `WRITE 49, <dur>` (30_encoding.md R66). -/
def Instr.rest (dur : Nat) : Instr := .write 49#8 dur

/-- `WAIT <k>` = `k` lines of `NOP` (30_encoding.md R66). -/
def Instr.wait (k : Nat) : List Instr := List.replicate k .nop

/-- WRITE or not: the one command that takes the place of the state machine's own transition (40_cycle_step.md R72 c). -/
def Instr.isWrite : Instr → Bool
  | .write _ _ => true
  | .nop | .read | .isplay | .isread | .istrig | .rsvd6 | .rsvd7 => false

/-- The query commands: READ, ISPLAY, ISREAD, ISTRIG (10_state.md R34). -/
def Instr.isQuery : Instr → Bool
  | .read | .isplay | .isread | .istrig => true
  | .nop | .write _ _ | .rsvd6 | .rsvd7 => false

end Sys2Proof
end

