-- ==== Sys2Proof/WellFormed.lean ====
section
/-! DEFINITION. Which commands and which parameter sets are well formed. -/

namespace Sys2Proof

/-- `dur` is a `W_DUR`-bit operand (30_encoding.md R59). Every other value of every operand is legal (30_encoding.md R58,
R63): "no operand value is rejected". -/
def Instr.wf (p : Params) : Instr → Bool
  | .write _ dur => decide (dur < 2 ^ p.wDur)
  | .nop | .read | .isplay | .isread | .istrig | .rsvd6 | .rsvd7 => true

/-- `W_T` in 8..64 and above `W_DUR`; `W_DUR` in 1..`W_T`-1 (00_scope.md R7). -/
def Params.widthsLegal (p : Params) : Bool :=
  decide (8 ≤ p.wT) && decide (p.wT ≤ 64) && decide (1 ≤ p.wDur) && decide (p.wDur < p.wT)

/-- `T_ON`, `T_OFF` and `T_REL` in 0 .. 2^`W_T`-2 (00_scope.md R7). -/
def Params.timesLegal (p : Params) : Bool :=
  decide (p.tOn ≤ 2 ^ p.wT - 2) && decide (p.tOff ≤ 2 ^ p.wT - 2) && decide (p.tRel ≤ 2 ^ p.wT - 2)

/-- The wrap constraint of 00_scope.md R7: `(2^W_DUR - 1) + T_ON + T_OFF + 2 < 2^W_T`. -/
def Params.wrapLegal (p : Params) : Bool :=
  decide (2 ^ p.wDur - 1 + p.tOn + p.tOff + 2 < 2 ^ p.wT)

/-- A parameter set that 00_scope.md R7 allows. 93_implementation_defined.md U2: "a model `refuse`s parameter sets that
break R7's wrap constraint". -/
def Params.legal (p : Params) : Bool := p.widthsLegal && p.timesLegal && p.wrapLegal

end Sys2Proof
end

