-- ==== Sys2Proof/Decode.lean ====
section
/-! DEFINITION. The command word `CW` (30_encoding.md R57, R67): decoder, the opcode table's rows, encoder. -/

namespace Sys2Proof

/-- `CW = {dur, note, op}`, `3 + 8 + W_DUR` bits (30_encoding.md R55, R57). -/
abbrev CmdWord (p : Params) := BitVec (p.wDur + 8 + 3)

/-- `CW[2:0]` (30_encoding.md R57). -/
def opField (p : Params) (cw : CmdWord p) : BitVec 3 := cw.extractLsb' 0 3

/-- `CW[10:3]` (30_encoding.md R57). -/
def noteField (p : Params) (cw : CmdWord p) : BitVec 8 := cw.extractLsb' 3 8

/-- `CW[10+W_DUR:11]` (30_encoding.md R57). -/
def durField (p : Params) (cw : CmdWord p) : BitVec p.wDur := cw.extractLsb' 11 p.wDur

/-- The command a command word stands for. "A decoder needs only `cmd_i` to know the command" (30_encoding.md R65); no word
is illegal (R63), so nothing is rejected; every opcode but WRITE ignores the operand fields (R60). -/
def decode (p : Params) (cw : CmdWord p) : Instr :=
  match (opField p cw).toFin with
  | 0 => .nop
  | 1 => .write (noteField p cw) (durField p cw).toNat
  | 2 => .read
  | 3 => .isplay
  | 4 => .isread
  | 5 => .istrig
  | 6 => .rsvd6
  | 7 => .rsvd7

/-- Why a number is no command word. -/
inductive DecodeError where
  /-- The number has bits above the `3 + 8 + W_DUR` bits of the `CMD` format (30_encoding.md R55). -/
  | wordTooWide
deriving DecidableEq, Repr

/-- The decoder on any number: a number wider than the format is rejected by name. -/
def decodeWord (p : Params) (w : Nat) : Except DecodeError Instr :=
  if w < 2 ^ (p.wDur + 8 + 3) then .ok (decode p (BitVec.ofNat _ w)) else .error .wordTooWide

/-- One row of the opcode map: a word selects it when `(CW & mask) = pattern` (30_encoding.md R67; `match` there). -/
structure OpcodeRow where
  mnemonic : String
  pattern : Nat
  mask : Nat
deriving DecidableEq, Repr

/-- The opcode map of 30_encoding.md R67, row by row. -/
def opcodeRows : List OpcodeRow :=
  [⟨"NOP", 0x0, 0x7⟩, ⟨"WRITE", 0x1, 0x7⟩, ⟨"READ", 0x2, 0x7⟩, ⟨"ISPLAY", 0x3, 0x7⟩, ⟨"ISREAD", 0x4, 0x7⟩,
   ⟨"ISTRIG", 0x5, 0x7⟩, ⟨"RSVD6", 0x6, 0x7⟩, ⟨"RSVD7", 0x7, 0x7⟩]

/-- A command word selects a row (30_encoding.md R67). -/
def OpcodeRow.selects (row : OpcodeRow) (cw : Nat) : Bool := cw &&& row.mask == row.pattern

/-- The `op` field of a command (30_encoding.md R56). -/
def Instr.opcode : Instr → BitVec 3
  | .nop => 0b000#3
  | .write _ _ => 0b001#3
  | .read => 0b010#3
  | .isplay => 0b011#3
  | .isread => 0b100#3
  | .istrig => 0b101#3
  | .rsvd6 => 0b110#3
  | .rsvd7 => 0b111#3

/-- `{dur, note, op}` (30_encoding.md R57). -/
def packWord (p : Params) (dur : BitVec p.wDur) (note : BitVec 8) (op : BitVec 3) : CmdWord p := dur ++ note ++ op

/-- The command word of a command, the ignored operand fields of the others zero (30_encoding.md R57, R60, R66). -/
def encode (p : Params) : Instr → CmdWord p
  | .write note dur => packWord p (BitVec.ofNat p.wDur dur) note 0b001#3
  | .nop => packWord p 0 0 0b000#3
  | .read => packWord p 0 0 0b010#3
  | .isplay => packWord p 0 0 0b011#3
  | .isread => packWord p 0 0 0b100#3
  | .istrig => packWord p 0 0 0b101#3
  | .rsvd6 => packWord p 0 0 0b110#3
  | .rsvd7 => packWord p 0 0 0b111#3

/-- The host's view of the decoder at the default parameters: the word's bits above `nbits` are zero, and `CW` is a parallel
word, so the table's bit numbering is `CW`'s own (20_memory.md R42; log entry 8). -/
def decodeTableWord (nbits w : Nat) : Option Instr :=
  match decodeWord Params.defaults (w % 2 ^ nbits) with
  | .ok i => some i
  | .error _ => none

end Sys2Proof
end

