-- ==== Sys2Proof/Machine/State.lean ====
section
/-! DEFINITION. The machine's state (10_state.md), its reset value (R37), and the reasons a step can stop. -/

namespace Sys2Proof.Machine

/-- `WSTATE`, the Write Path state (10_state.md R17; 43_write_path.md R105). The codes are `WState.code`. -/
inductive WState where
  | done
  | pulseOn
  | pulseOff
  | restWait
deriving DecidableEq, Repr

/-- The numeric codes of 10_state.md R17; "no illegal code" (43_write_path.md R105). -/
def WState.code : WState → BitVec 2
  | .done => 0b00#2
  | .pulseOn => 0b01#2
  | .pulseOff => 0b10#2
  | .restWait => 0b11#2

/-- Every register of 10_state.md, each under its own name. -/
@[ext]
structure Regs (p : Params) where
  /-- `NOW`, the time-unit counter (R14). -/
  now : BitVec p.wT
  /-- `WSTATE` (R17). -/
  wstate : WState
  /-- `SUP`, the write-suppression flag and the direction of the link bank (R18). -/
  sup : Bool
  /-- `OUT`, the levels driven when `SUP` = 1 (R19). -/
  out : Lines
  /-- `WNOTE`, the note of the active write request (R20). -/
  wNote : Note
  /-- `WDUR`, the requested total duration (R21). -/
  wDur : BitVec p.wDur
  /-- `NOTE_STAMP`, the note-level elapsed timer (R22). -/
  noteStamp : BitVec p.wT
  /-- `PULSE_STAMP`, the pulse timer (R23). -/
  pulseStamp : BitVec p.wT
  /-- `PENDING`, a capture not yet synced (R24). -/
  pending : Bool
  /-- `CAPNOTE`, the captured note (R25). -/
  capNote : Note
  /-- `CAPTIME`, the value of `NOW` in the cycle of the last capture (R26). -/
  capTime : BitVec p.wT
  /-- `TRIGGERED`, the trigger latch (R27). -/
  triggered : Bool
  /-- `READING`, the "reading" status (R28). -/
  reading : Bool
  /-- `REL_STAMP`, the release timer (R29). -/
  relStamp : BitVec p.wT
  /-- `CURNOTE`, the current note (R30). -/
  curNote : Note
  /-- `SYNC1`, first stage of the synchroniser (R31). -/
  sync1 : Lines
  /-- `SYNC2`, second stage of the synchroniser (R31). -/
  sync2 : Lines
  /-- `TRIG_PREV`, the edge detector's previous trigger sample (R32). -/
  trigPrev : Bool
  /-- `SUP_D`, the guard pipeline (R33). -/
  supD : BitVec 2
  /-- `RSP`, the response register (R34). -/
  rsp : Response
  /-- `RSP_VALID` (R34). -/
  rspValid : Bool
deriving DecidableEq, Repr

/-- `RESET_STATE`: the reset value of every register (10_state.md R37). -/
def Regs.reset (p : Params) : Regs p where
  now := 0#p.wT
  wstate := .done
  sup := false
  out := 0b0000000#7
  wNote := 0#6
  wDur := 0#p.wDur
  noteStamp := 0#p.wT
  pulseStamp := 0#p.wT
  pending := false
  capNote := 0#6
  capTime := 0#p.wT
  triggered := false
  reading := false
  relStamp := 0#p.wT
  curNote := 0#6
  sync1 := 0b0100000#7
  sync2 := 0b0100000#7
  trigPrev := true
  supD := 0b00#2
  rsp := 0x00#8
  rspValid := false

/-- The levels on the input ports in one cycle (10_state.md R15). `clk` is the step itself. -/
structure Inputs (p : Params) where
  /-- `rst_n`, active low. -/
  rstN : Bool
  /-- `tick_i`, the time-base strobe. -/
  tick : Bool
  /-- `cmd_i`, the opcode. -/
  cmd : BitVec 3
  /-- `note_i`, WRITE's note operand. -/
  note : BitVec 8
  /-- `dur_i`, WRITE's duration operand. -/
  dur : BitVec p.wDur
  /-- `link_in_i`, the levels of the link lines as the pads read them. -/
  linkIn : Lines
deriving DecidableEq, Repr

/-- The machine in one cycle: its parameters, its registers, and the environment's input levels. -/
structure State where
  /-- The parameters of 00_scope.md R7; no step changes them (log entry 4). -/
  cfg : Params
  /-- The registers that hold throughout the cycle (00_scope.md R10). -/
  regs : Regs cfg
  /-- The input levels of this cycle, sampled at the edge that ends it (00_scope.md R10; log entry 1). -/
  pins : Inputs cfg
  /-- The input levels of the following cycles, the next cycle's first (log entry 1). -/
  sched : List (Inputs cfg)
  /-- The model's own count of cycles, the index of the free input values (log entry 2). -/
  cycle : Nat
deriving DecidableEq, Repr

/-- The input levels in cycle 1 after reset: `rst_n` = 1, no command, no tick, every line low. DESIGN CHOICE (log entry 3):
the inputs are the environment's and the spec gives them no value; no statement rests on these. -/
def Inputs.idle (p : Params) : Inputs p where
  rstN := true
  tick := false
  cmd := 0b000#3
  note := 0#8
  dur := 0#p.wDur
  linkIn := 0b0000000#7

/-- The machine in cycle 1, the first cycle whose ending edge samples `rst_n` = 1 (70_reset_and_hazards.md R161), at the
default parameters, every register at its reset value (10_state.md R37). -/
def State.reset : State where
  cfg := Params.defaults
  regs := Regs.reset Params.defaults
  pins := Inputs.idle Params.defaults
  sched := []
  cycle := 0

/-- Why the machine stops with a fault: it never does. "The block raises no exception, has no trap, no cause code, no error
register and no fault state" (60_exceptions.md R140). -/
inductive Fault where
deriving DecidableEq, Repr

/-- Why the model gives a step no meaning. -/
inductive Refusal where
  /-- Raised only by an arm of `exec` whose instruction has no meaning yet; safe. No arm of this model raises it. -/
  | notModelled (mnemonic : String)
  /-- Raised by `step` when the parameters are outside 00_scope.md R7; safe. 93_implementation_defined.md U2: "a model
  `refuse`s parameter sets that break R7's wrap constraint" (log entry 5). -/
  | illegalParameters
deriving DecidableEq, Repr

end Sys2Proof.Machine
end

