-- ==== Sys2Proof/Machine/Operands.lean ====
section
/-! DEFINITION. The two operand forms and the link frame: WRITE's note operand (30_encoding.md R58), its duration operand
(R59), the note encoder and decoder (41_bus_arbiter.md R80, R81), and the fetch of the command from the command port. -/

namespace Sys2Proof.Machine

/-- `encode(n6) = {n6[5], 1'b1, n6[4:0]}` (41_bus_arbiter.md R80). -/
def encodeNote (n : Note) : Lines := n.extractLsb' 5 1 ++ 1#1 ++ n.extractLsb' 0 5

/-- `decode(l7) = {l7[6], l7[4:0]}`; the trigger bit is ignored (41_bus_arbiter.md R81). -/
def decodeNote (l : Lines) : Note := l.extractLsb' 6 1 ++ l.extractLsb' 0 5

/-- `L[5]`, the trigger line (30_encoding.md R61). -/
def triggerBit (l : Lines) : Bool := l.getLsbD 5

/-- Classification on all 8 bits: `note <=u 48` is a playable note, 49 to 255 a rest (30_encoding.md R58 a). -/
def isPlayable (note : BitVec 8) : Bool := decide (note ≤ noteMax)

/-- `note[5:0]`, "masked" (30_encoding.md R58 b). -/
def storedNote (note : BitVec 8) : Note := note.extractLsb' 0 6

/-- The duration as the register `WDUR` takes it: `W_DUR` bits (30_encoding.md R59; log entry 7). -/
def storedDur (p : Params) (dur : Nat) : BitVec p.wDur := BitVec.ofNat p.wDur dur

/-- The word the host presents on `cmd_i`, `note_i` and `dur_i` (30_encoding.md R57). -/
def Inputs.commandWord {p : Params} (io : Inputs p) : CmdWord p := packWord p io.dur io.note io.cmd

/-- The same input levels with the command word `w` on the command port and reset deasserted, so that the cycle executes it
(44_host_commands.md R125). -/
def Inputs.withCommandWord {p : Params} (io : Inputs p) (w : Nat) : Inputs p :=
  { io with
    rstN := true
    cmd := opField p (BitVec.ofNat _ w)
    note := noteField p (BitVec.ofNat _ w)
    dur := durField p (BitVec.ofNat _ w) }

end Sys2Proof.Machine
end

