-- ==== Sys2Proof/Machine/Flags.lean ====
section
/-! DEFINITION. The conditions the rules compute from the pre-edge registers: elapsed times and their comparisons, the edge,
the guard, the capture condition, "playing", and the query responses. -/

namespace Sys2Proof.Machine

variable {p : Params}

/-- `elapsed(stamp) = NOW - stamp`, modulo 2^`W_T` (00_scope.md R11). -/
def elapsed (r : Regs p) (stamp : BitVec p.wT) : BitVec p.wT := r.now - stamp

/-- "exceeds" is `>u` (00_scope.md R12). -/
def exceeds (r : Regs p) (stamp : BitVec p.wT) (t : Nat) : Bool := decide (t < (elapsed r stamp).toNat)

/-- "has reached the requested duration" is `>=u`, against `zext_W_T(WDUR)` (00_scope.md R12; 30_encoding.md R59). Its
negation is "has not yet reached", `<u` (log entry 15). -/
def durationReached (r : Regs p) : Bool := decide (r.wDur.toNat ≤ (elapsed r r.noteStamp).toNat)

/-- `edge = SYNC2[5] & !TRIG_PREV` (42_read_path.md R90). -/
def triggerEdge (r : Regs p) : Bool := triggerBit r.sync2 && !r.trigPrev

/-- `guard = SUP | SUP_D[0] | SUP_D[1]` (42_read_path.md R91). -/
def guardActive (r : Regs p) : Bool := r.sup || r.supD.getLsbD 0 || r.supD.getLsbD 1

/-- `cap = edge & !guard & !PENDING` (42_read_path.md R92). -/
def captureNow (r : Regs p) : Bool := triggerEdge r && !guardActive r && !r.pending

/-- The pulse timer exceeds `T_ON` (43_write_path.md R108). -/
def pulseOnOver (r : Regs p) : Bool := exceeds r r.pulseStamp p.tOn

/-- The pulse timer exceeds `T_OFF` (43_write_path.md R109). -/
def pulseOffOver (r : Regs p) : Bool := exceeds r r.pulseStamp p.tOff

/-- The release timer exceeds `T_REL` (42_read_path.md R95). -/
def releaseOver (r : Regs p) : Bool := exceeds r r.relStamp p.tRel

/-- `playing_o = (WSTATE != DONE)` (43_write_path.md R114; 10_state.md R36). -/
def playing (r : Regs p) : Bool := decide (r.wstate ≠ .done)

/-- `{2'b00, CURNOTE}` (44_host_commands.md R128). -/
def readResponse (r : Regs p) : Response := r.curNote.setWidth 8

/-- `{7'b0000000, WSTATE != DONE}` (44_host_commands.md R129). -/
def isplayResponse (r : Regs p) : Response := bitResponse (playing r)

/-- `{7'b0000000, READING}` (44_host_commands.md R130). -/
def isreadResponse (r : Regs p) : Response := bitResponse r.reading

/-- `{7'b0000000, TRIGGERED}`, the pre-edge latch (44_host_commands.md R131). -/
def istrigResponse (r : Regs p) : Response := bitResponse r.triggered

end Sys2Proof.Machine
end

