-- ==== Sys2Proof/Machine/Ops.lean ====
section
/-! DEFINITION. The named operations on the registers. Each reads the pre-edge registers `r` and writes the next registers
`n` (00_scope.md R9: every right-hand side reads pre-edge values); where two operations write one register, the order in
which a meaning applies them is the priority of 40_cycle_step.md R72. -/

namespace Sys2Proof.Machine

variable {p : Params}

/-! ### Time base and input conditioning -/

/-- `NOW' <- NOW + zext_W_T(tick_i)` (10_state.md R14). -/
def timeBase (r n : Regs p) (tick : Bool) : Regs p :=
  { n with now := r.now + (BitVec.ofBool tick).setWidth p.wT }

/-- The synchroniser, the edge detector's previous sample and the guard pipeline (10_state.md R31 to R33). -/
def conditionInputs (r n : Regs p) (linkIn : Lines) : Regs p :=
  { n with
    sync1 := linkIn
    sync2 := r.sync1
    trigPrev := triggerBit r.sync2
    supD := r.supD.extractLsb' 0 1 ++ BitVec.ofBool r.sup }

/-! ### The interrupt in: its entry (the capture) and its return (the sync) -/

/-- The capture, "the whole handler": "Trap entry" of the interrupt in (42_read_path.md R92; 60_exceptions.md R144). It saves
the note and the time, sets `PENDING` and `TRIGGERED`, and changes no mode, mask, stack or vector. An edge it does not take
is lost (42_read_path.md R93). -/
def capture (r n : Regs p) : Regs p :=
  if captureNow r then
    { n with capNote := decodeNote r.sync2, capTime := r.now, pending := true, triggered := true }
  else { n with pending := false }

/-- The sync, "Trap return" (42_read_path.md R94; 60_exceptions.md R145), and the release (42_read_path.md R95). The sync's
`PENDING' <- 0` is `capture`'s `PENDING' <- cap` with `cap` = 0. -/
def syncRelease (r n : Regs p) : Regs p :=
  if r.pending then { n with curNote := r.capNote, reading := true, relStamp := r.now }
  else if r.reading && releaseOver r then { n with reading := false }
  else n

/-- What every cycle with `rst_n` = 1 does whatever the command: 40_cycle_step.md R70 up to the command, R74. -/
def everyCycle (r : Regs p) (io : Inputs p) : Regs p :=
  syncRelease r (capture r (conditionInputs r (timeBase r r io.tick) io.linkIn))

/-! ### The response register and the trigger latch -/

/-- `RSP' <- v; RSP_VALID' <- 1` (10_state.md R34; 44_host_commands.md R133). -/
def respond (n : Regs p) (v : Response) : Regs p := { n with rsp := v, rspValid := true }

/-- `RSP_VALID' <- 0`, `RSP` unchanged (10_state.md R34; 44_host_commands.md R133). -/
def noResponse (n : Regs p) : Regs p := { n with rspValid := false }

/-- ISTRIG's clear of the latch, which a capture of the same cycle wins over (44_host_commands.md R131; 40_cycle_step.md
R72 b). -/
def consumeTrigger (r n : Regs p) : Regs p := if captureNow r then n else { n with triggered := false }

/-! ### The Write Path -/

/-- `EnterPulseOn(n6)` (43_write_path.md R106). Applied after the sync, so its `CURNOTE` wins (40_cycle_step.md R72 a). -/
def enterPulseOn (r n : Regs p) (n6 : Note) : Regs p :=
  { n with wstate := .pulseOn, sup := true, out := encodeNote n6, pulseStamp := r.now, curNote := n6 }

/-- `EnterPulseOff()` (43_write_path.md R107). -/
def enterPulseOff (r n : Regs p) : Regs p :=
  { n with wstate := .pulseOff, sup := false, out := 0b0000000#7, pulseStamp := r.now }

/-- `EnterRestWait()` (43_write_path.md R112). `CURNOTE` is not written. -/
def enterRestWait (n : Regs p) : Regs p :=
  { n with wstate := .restWait, sup := false, out := 0b0000000#7 }

/-- `WSTATE' <- DONE` (43_write_path.md R109, R110). -/
def enterDone (n : Regs p) : Regs p := { n with wstate := .done }

/-- The write state machine's own transition, in every cycle without a WRITE (43_write_path.md R108 to R111). -/
def advanceWritePath (r n : Regs p) : Regs p :=
  match r.wstate with
  | .done => n
  | .pulseOn => if pulseOnOver r then enterPulseOff r n else n
  | .pulseOff =>
    if pulseOffOver r then
      if durationReached r then enterDone n else enterPulseOn r n r.wNote
    else n
  | .restWait => if durationReached r then enterDone n else n

/-- The request a WRITE loads, and both of its timers reset (44_host_commands.md R127). -/
def loadRequest (r n : Regs p) (note : BitVec 8) (dur : Nat) : Regs p :=
  { n with wNote := storedNote note, wDur := storedDur p dur, noteStamp := r.now, pulseStamp := r.now }

/-- `DoWrite(note8, dur)` (40_cycle_step.md R70; 44_host_commands.md R127). -/
def doWrite (r n : Regs p) (note : BitVec 8) (dur : Nat) : Regs p :=
  if isPlayable note then enterPulseOn r (loadRequest r n note dur) (storedNote note)
  else enterRestWait (loadRequest r n note dur)

/-! ### The clock edge -/

/-- The free input levels of a cycle the schedule does not list (log entry 2): every port free, reset deasserted. -/
def freeInputs (p : Params) (k : Nat) : Inputs p where
  rstN := true
  tick := Config.freeTick k
  cmd := Config.freeCmd k
  note := Config.freeNote k
  dur := Config.freeDur p.wDur k
  linkIn := Config.freeLink k

/-- The input levels of the next cycle: the schedule's, or free ones. -/
def State.nextPins (s : State) : Inputs s.cfg := s.sched.headD (freeInputs s.cfg s.cycle)

/-- The edge that ends the cycle: the registers take `r`, and the next cycle's inputs arrive. "Because the reset is
asynchronous, the registers also hold `RESET_STATE` throughout every cycle in which `rst_n` = 0" (40_cycle_step.md R71), so
if the next cycle has `rst_n` = 0 they are at their reset values in it (log entry 6). -/
def State.advance (s : State) (r : Regs s.cfg) : State where
  cfg := s.cfg
  regs := if s.nextPins.rstN then r else Regs.reset s.cfg
  pins := s.nextPins
  sched := s.sched.tail
  cycle := s.cycle + 1

/-- A cycle with `rst_n` = 0: "no command is executed and no capture is made in that cycle" (40_cycle_step.md R71). -/
def resetCycle (s : State) : Host.Outcome State Fault Refusal := .next (s.advance (Regs.reset s.cfg))

end Sys2Proof.Machine
end

