-- ==== Sys2Proof/Machine/Control.lean ====
section
/-! DEFINITION. The commands that ask nothing: NOP and the reserved opcodes (44_host_commands.md R126, R132). -/

namespace Sys2Proof.Machine

/-- NOP (44_host_commands.md R126): `RSP_VALID' <- 0`; "the every-cycle rules of 40_cycle_step.md rule R70 still run". -/
def execNop (s : State) : Host.Outcome State Fault Refusal :=
  .next (s.advance (advanceWritePath s.regs (noResponse (everyCycle s.regs s.pins))))

/-- RSVD6, "As NOP (rule R126)" (44_host_commands.md R132; log entry 10). -/
def execRsvd6 (s : State) : Host.Outcome State Fault Refusal :=
  .next (s.advance (advanceWritePath s.regs (noResponse (everyCycle s.regs s.pins))))

/-- RSVD7, "As NOP (rule R126)" (44_host_commands.md R132; log entry 10). -/
def execRsvd7 (s : State) : Host.Outcome State Fault Refusal :=
  .next (s.advance (advanceWritePath s.regs (noResponse (everyCycle s.regs s.pins))))

end Sys2Proof.Machine
end

