-- ==== Sys2Proof/Machine/Query.lean ====
section
/-! DEFINITION. The query commands: READ, ISPLAY, ISREAD, ISTRIG (44_host_commands.md R128 to R131). Each reports the pre-edge
state (20_memory.md R48 b). -/

namespace Sys2Proof.Machine

/-- READ (44_host_commands.md R128). -/
def execRead (s : State) : Host.Outcome State Fault Refusal :=
  .next (s.advance (advanceWritePath s.regs (respond (everyCycle s.regs s.pins) (readResponse s.regs))))

/-- ISPLAY (44_host_commands.md R129). -/
def execIsplay (s : State) : Host.Outcome State Fault Refusal :=
  .next (s.advance (advanceWritePath s.regs (respond (everyCycle s.regs s.pins) (isplayResponse s.regs))))

/-- ISREAD (44_host_commands.md R130). -/
def execIsread (s : State) : Host.Outcome State Fault Refusal :=
  .next (s.advance (advanceWritePath s.regs (respond (everyCycle s.regs s.pins) (isreadResponse s.regs))))

/-- ISTRIG, "an atomic read-and-clear of `TRIGGERED`" (44_host_commands.md R131; 20_memory.md R47). -/
def execIstrig (s : State) : Host.Outcome State Fault Refusal :=
  .next (s.advance (advanceWritePath s.regs
    (respond (consumeTrigger s.regs (everyCycle s.regs s.pins)) (istrigResponse s.regs))))

end Sys2Proof.Machine
end

