-- ==== Sys2Proof/Machine/Transmit.lean ====
section
/-! DEFINITION. WRITE (44_host_commands.md R127). -/

namespace Sys2Proof.Machine

/-- WRITE (44_host_commands.md R127). It takes the place of the state machine's own transition of the cycle, "which is
discarded" (40_cycle_step.md R72 c), and does not touch the Read Path's registers. -/
def execWrite (note : BitVec 8) (dur : Nat) (s : State) : Host.Outcome State Fault Refusal :=
  .next (s.advance (doWrite s.regs (noResponse (everyCycle s.regs s.pins)) note dur))

end Sys2Proof.Machine
end

