-- ==== Sys2Proof/Machine/Dispatch.lean ====
section
/-! DEFINITION. One arm per command: the cycle with `rst_n` = 1 in which the host presents it (44_host_commands.md R125). -/

namespace Sys2Proof.Machine

def exec (i : Instr) (s : State) : Host.Outcome State Fault Refusal :=
  match i with
  | .nop => Sys2Proof.Machine.execNop s
  | .write note dur => Sys2Proof.Machine.execWrite note dur s
  | .read => Sys2Proof.Machine.execRead s
  | .isplay => Sys2Proof.Machine.execIsplay s
  | .isread => Sys2Proof.Machine.execIsread s
  | .istrig => Sys2Proof.Machine.execIstrig s
  | .rsvd6 => Sys2Proof.Machine.execRsvd6 s
  | .rsvd7 => Sys2Proof.Machine.execRsvd7 s

end Sys2Proof.Machine
end

