-- ==== Sys2Proof/Machine/Outputs.lean ====
section
/-! DEFINITION. The output ports (10_state.md R16) as functions of the registers alone (R36; 00_scope.md R6). -/

namespace Sys2Proof.Machine

/-- The levels on the output ports in one cycle (10_state.md R16). -/
structure Outputs (p : Params) where
  linkOut : Lines
  linkOe : Bool
  note : Note
  playing : Bool
  reading : Bool
  irq : Bool
  evtTime : BitVec p.wT
  rsp : Response
  rspValid : Bool
deriving DecidableEq, Repr

/-- The output function (10_state.md R36). -/
def outputs {p : Params} (r : Regs p) : Outputs p where
  linkOut := r.out
  linkOe := r.sup
  note := r.curNote
  playing := playing r
  reading := r.reading
  irq := r.triggered
  evtTime := r.capTime
  rsp := r.rsp
  rspValid := r.rspValid

/-- The output levels in the machine's current cycle. -/
def State.outputs (s : State) : Outputs s.cfg := Sys2Proof.Machine.outputs s.regs

end Sys2Proof.Machine
end

