-- ==== Sys2Proof/Machine/Step.lean ====
section
/-! DEFINITION. One clock cycle of the block (40_cycle_step.md R70, R71). -/

namespace Sys2Proof.Machine

/-- One cycle: refuse a parameter set outside 00_scope.md R7 (93_implementation_defined.md U2); with `rst_n` = 0 reset
(40_cycle_step.md R71); otherwise execute the command on the command port (44_host_commands.md R125). -/
def step (s : State) : Host.Outcome State Fault Refusal :=
  if s.cfg.legal then
    if s.pins.rstN then exec (decode s.cfg s.pins.commandWord) s else resetCycle s
  else .refused .illegalParameters

/-- The state with the command word on the command port of the current cycle, where `step` takes its command from, and
`rst_n` = 1 so that it is executed; every other input level and every register as it was (log entries 3, 8). -/
def State.withFetchWord (s : State) (nbits w : Nat) : State :=
  { s with pins := s.pins.withCommandWord (w % 2 ^ nbits) }

end Sys2Proof.Machine
end

