-- ==== Sys2Proof/Machine/Pseudocode.lean ====
section
/-! DEFINITION. A second form of the cycle: 40_cycle_step.md R70 and R72 read register by register, each next value with its
writers in the order of their priority, every comparison made at the width `W_T` as the pseudo-code writes it. The machine
itself is `exec`; an obligation states that the two agree. -/

namespace Sys2Proof.Machine

variable {p : Params}

/-- `Step(S, I)` of 40_cycle_step.md R70 on the registers, one line per register. -/
def pseudocodeStep (r : Regs p) (io : Inputs p) : Regs p :=
  if io.rstN = false then Regs.reset p
  else
    let cap : Bool :=
      r.sync2.getLsbD 5 && !r.trigPrev && !(r.sup || r.supD.getLsbD 0 || r.supD.getLsbD 1) && !r.pending
    let write : Bool := io.cmd == 0b001#3
    let writeNote : Bool := write && decide (io.note ≤ 48#8)
    let writeRest : Bool := write && !decide (io.note ≤ 48#8)
    let onOver : Bool :=
      !write && r.wstate == .pulseOn && decide (BitVec.ofNat p.wT p.tOn < r.now - r.pulseStamp)
    let offOver : Bool :=
      !write && r.wstate == .pulseOff && decide (BitVec.ofNat p.wT p.tOff < r.now - r.pulseStamp)
    let notReached : Bool := decide (r.now - r.noteStamp < r.wDur.setWidth p.wT)
    let again : Bool := offOver && notReached
    let finish : Bool := (offOver && !notReached) || (!write && r.wstate == .restWait && !notReached)
    let release : Bool :=
      !r.pending && r.reading && decide (BitVec.ofNat p.wT p.tRel < r.now - r.relStamp)
    { now := r.now + (if io.tick then 1#p.wT else 0#p.wT)
      wstate :=
        if writeNote || again then .pulseOn
        else if writeRest then .restWait
        else if onOver then .pulseOff
        else if finish then .done
        else r.wstate
      sup := if writeNote || again then true else if writeRest || onOver then false else r.sup
      out :=
        if writeNote then encodeNote (io.note.extractLsb' 0 6)
        else if again then encodeNote r.wNote
        else if writeRest || onOver then 0#7
        else r.out
      wNote := if write then io.note.extractLsb' 0 6 else r.wNote
      wDur := if write then io.dur else r.wDur
      noteStamp := if write then r.now else r.noteStamp
      pulseStamp := if write || onOver || again then r.now else r.pulseStamp
      pending := cap
      capNote := if cap then decodeNote r.sync2 else r.capNote
      capTime := if cap then r.now else r.capTime
      triggered := if cap then true else if io.cmd == 0b101#3 then false else r.triggered
      reading := if r.pending then true else if release then false else r.reading
      relStamp := if r.pending then r.now else r.relStamp
      curNote :=
        if writeNote then io.note.extractLsb' 0 6
        else if again then r.wNote
        else if r.pending then r.capNote
        else r.curNote
      sync1 := io.linkIn
      sync2 := r.sync1
      trigPrev := r.sync2.getLsbD 5
      supD := BitVec.ofBool (r.supD.getLsbD 0) ++ BitVec.ofBool r.sup
      rsp :=
        if io.cmd == 0b010#3 then 0#2 ++ r.curNote
        else if io.cmd == 0b011#3 then 0#7 ++ BitVec.ofBool (r.wstate != .done)
        else if io.cmd == 0b100#3 then 0#7 ++ BitVec.ofBool r.reading
        else if io.cmd == 0b101#3 then 0#7 ++ BitVec.ofBool r.triggered
        else r.rsp
      rspValid :=
        io.cmd == 0b010#3 || io.cmd == 0b011#3 || io.cmd == 0b100#3 || io.cmd == 0b101#3 }

end Sys2Proof.Machine
end

