-- ==== Sys2Proof/Safety.lean ====
section
/-! DEFINITION. What claims about the machine are stated in terms of: invariants of the registers, relations between two
runs, and descriptions of a stretch of inputs. -/

namespace Sys2Proof.Machine

variable {p : Params}

/-! ### Invariants -/

/-- The bus invariant (10_state.md R39 a, b): `SUP` = 1 exactly in `PULSE_ON`, and the lines carry `encode(WNOTE)` when
`SUP` = 1 and 0 when `SUP` = 0. -/
structure Regs.BusInv (r : Regs p) : Prop where
  sup_iff : r.sup = true ↔ r.wstate = .pulseOn
  driven : r.sup = true → r.out = encodeNote r.wNote
  released : r.sup = false → r.out = 0b0000000#7

/-- The mailbox invariant behind 42_read_path.md R99: while a capture is unconsumed, the previous trigger sample is 1 and the
trigger latch is set. -/
structure Regs.MailboxInv (r : Regs p) : Prop where
  prev_high : r.pending = true → r.trigPrev = true
  latched : r.pending = true → r.triggered = true

/-- The active request of a pulse train is a playable note (30_encoding.md R58). -/
def Regs.RequestInv (r : Regs p) : Prop :=
  r.wstate = .pulseOn ∨ r.wstate = .pulseOff → r.wNote.toNat ≤ 48

/-- "The unused high bits of `rsp_o` are 0" (44_host_commands.md R133). -/
def Regs.ResponseInv (r : Regs p) : Prop := r.rsp.toNat < 64

/-- Every elapsed time that a rule compares is bounded while it is compared (70_reset_and_hazards.md R176). With R7's
constraint every bound is below 2^`W_T`. -/
structure Regs.TimerInv (r : Regs p) : Prop where
  pulse_on : r.wstate = .pulseOn → (elapsed r r.pulseStamp).toNat ≤ p.tOn + 1
  note_on : r.wstate = .pulseOn →
    (elapsed r r.noteStamp).toNat ≤ (r.wDur.toNat - 1) + (elapsed r r.pulseStamp).toNat
  pulse_off : r.wstate = .pulseOff → (elapsed r r.pulseStamp).toNat ≤ p.tOff + 1
  note_off : r.wstate = .pulseOff →
    (elapsed r r.noteStamp).toNat ≤ (r.wDur.toNat - 1) + (p.tOn + 1) + (elapsed r r.pulseStamp).toNat
  rest : r.wstate = .restWait → (elapsed r r.noteStamp).toNat ≤ max r.wDur.toNat 1
  release : r.reading = true → (elapsed r r.relStamp).toNat ≤ p.tRel + 1

/-- Asynchronous reset (70_reset_and_hazards.md R160): in a cycle with `rst_n` = 0 every register holds its reset value. -/
def State.ResetHeld (s : State) : Prop := s.pins.rstN = false → s.regs = Regs.reset s.cfg

/-- A high trigger sample in the synchroniser either was taken while the block drove the lines or follows a high sample, so it
makes no edge that the guard does not mask (70_reset_and_hazards.md R177). -/
structure Regs.LoopbackInv (r : Regs p) : Prop where
  second : triggerBit r.sync2 = true → r.supD.getLsbD 1 = true ∨ r.trigPrev = true
  first : triggerBit r.sync1 = true → r.supD.getLsbD 0 = true ∨ triggerBit r.sync2 = true

/-! ### Two runs -/

/-- The registers of two runs agree but for data-line samples taken while the block drove the lines: `SYNC1` holds the sample
of the previous cycle and `SYNC2` that of two cycles earlier, as `SUP_D` holds `SUP` (10_state.md R31, R33). -/
structure Regs.AgreeButDriven (r r' : Regs p) : Prop where
  rest : r' = { r with sync1 := r'.sync1, sync2 := r'.sync2 }
  trigger1 : triggerBit r'.sync1 = triggerBit r.sync1
  trigger2 : triggerBit r'.sync2 = triggerBit r.sync2
  sync1 : r.supD.getLsbD 0 = false → r'.sync1 = r.sync1
  sync2 : r.supD.getLsbD 1 = false → r'.sync2 = r.sync2

/-- Two input levels agree but, in a cycle in which the block drives (`sup`), for the data lines. -/
structure Inputs.AgreeButDriven (sup : Bool) (io io' : Inputs p) : Prop where
  rest : io' = { io with linkIn := io'.linkIn }
  trigger : triggerBit io'.linkIn = triggerBit io.linkIn
  link : sup = false → io'.linkIn = io.linkIn

/-- Two register states agree on the Write Path and the time counter. -/
structure Regs.AgreeOnWritePath (r r' : Regs p) : Prop where
  now : r'.now = r.now
  wstate : r'.wstate = r.wstate
  sup : r'.sup = r.sup
  out : r'.out = r.out
  wNote : r'.wNote = r.wNote
  wDur : r'.wDur = r.wDur
  noteStamp : r'.noteStamp = r.noteStamp
  pulseStamp : r'.pulseStamp = r.pulseStamp

/-! ### Conditions of one cycle -/

/-- The `Encoding` line of an operand-less command's rule: its words are those with opcode `op` (30_encoding.md R56). -/
def SelectedBy (i : Instr) (op : BitVec 3) : Prop := ∀ (p : Params) (cw : CmdWord p), decode p cw = i ↔ opField p cw = op

/-- The repeat is due: `PULSE_OFF` is over and the note has not yet reached its duration (43_write_path.md R109). -/
def repeatDue (r : Regs p) : Prop := r.wstate = .pulseOff ∧ pulseOffOver r = true ∧ durationReached r = false

/-- The note that command `i` makes the Write Path enter `PULSE_ON` with in this cycle, if it does: a WRITE of a playable
note, or the repeat (43_write_path.md R106). -/
def PulseOnEntry (r : Regs p) (i : Instr) (n : Note) : Prop :=
  match i with
  | .write note _ => note.toNat ≤ 48 ∧ n = note.extractLsb' 0 6
  | .nop | .read | .isplay | .isread | .istrig | .rsvd6 | .rsvd7 => repeatDue r ∧ n = r.wNote

/-! ### Stretches of inputs -/

/-- The inputs of this cycle and the following ones, as far as the schedule goes. -/
def State.inputs (s : State) : List (Inputs s.cfg) := s.pins :: s.sched

/-- How many of these cycles have `tick_i` = 1: the number of time units that pass (00_scope.md R8). -/
def tickCount : List (Inputs p) → Nat
  | [] => 0
  | io :: ios => io.tick.toNat + tickCount ios

/-- No reset in any of these cycles. -/
def NoReset (ios : List (Inputs p)) : Prop := ∀ io ∈ ios, io.rstN = true

/-- No reset and no WRITE in any of these cycles. -/
def Undisturbed (ios : List (Inputs p)) : Prop := ∀ io ∈ ios, io.rstN = true ∧ io.cmd ≠ 0b001#3

/-- No tick in any of these cycles. -/
def NoTick (ios : List (Inputs p)) : Prop := ∀ io ∈ ios, io.tick = false

/-- `K = max(1, ceil(d / Pd))`, the number of pulses of a note of duration `d` (43_write_path.md R117). -/
def pulseTotal (p : Params) (d : Nat) : Nat := max 1 ((d + p.pulsePeriod - 1) / p.pulsePeriod)

/-- The Write Path's state when `u` time units of a note of duration `d` were over in the cycle before (43_write_path.md R116,
R117): a pulse period is `T_ON` + 1 units of `PULSE_ON` and then `T_OFF` + 1 units of `PULSE_OFF`. -/
def noteWaveform (p : Params) (d u : Nat) : WState :=
  if pulseTotal p d * p.pulsePeriod ≤ u then .done
  else if u % p.pulsePeriod ≤ p.tOn then .pulseOn
  else .pulseOff

end Sys2Proof.Machine
end

