-- ==== Sys2Proof/Certificates/Slice0/Obligations.lean ====
section
/-! DEFINITION. The statements for the provers, from the numbered rules of spec/. `∃ r, exec i s = .next (s.advance r) ∧ …`
says that command `i` completes and what the registers `r` latch; `ClockEdgeMovesTheEnvironment` says what `advance` adds. -/

open Sys2Proof Sys2Proof.Machine

/-! ### Encoding -/

/-- 30_encoding.md R57, R67: decoding the word of a well-formed command gives it back, operands and all. -/
def Obligations.DecodeOfEncodeIsTheCommand : Prop :=
  ∀ (p : Params) (i : Instr), i.wf p = true → decode p (encode p i) = i

/-- 30_encoding.md R57, R67: a word that decodes to WRITE is the one encoding of it. -/
def Obligations.EncodeOfDecodedWriteIsTheWord : Prop :=
  ∀ (p : Params) (cw : CmdWord p) (note : BitVec 8) (dur : Nat),
    decode p cw = .write note dur → dur < 2 ^ p.wDur ∧ encode p (.write note dur) = cw

/-- 30_encoding.md R67: exactly one row of the opcode map, whose masks are all `0x7`, selects every word; the decoder gives
that row's command, and WRITE's operands are `CW[10:3]` and the bits from 11 up. -/
def Obligations.ExactlyOneOpcodeRowSelectsEveryWord : Prop :=
  (∀ row ∈ opcodeRows, row.mask = 0x7) ∧
  ∀ (p : Params) (cw : CmdWord p),
    (opcodeRows.filter fun row => row.selects cw.toNat).map OpcodeRow.mnemonic = [(decode p cw).mnemonic] ∧
    ∀ (note : BitVec 8) (dur : Nat), decode p cw = .write note dur →
      note.toNat = cw.toNat / 2 ^ 3 % 2 ^ 8 ∧ dur = cw.toNat / 2 ^ 11

/-- 30_encoding.md R60: for every opcode but WRITE the operand ports select nothing. -/
def Obligations.OperandsOfOtherCommandsAreIgnored : Prop :=
  ∀ (s : State) (note : BitVec 8) (dur : BitVec s.cfg.wDur), s.pins.cmd ≠ 0b001#3 →
    step { s with pins := { s.pins with note := note, dur := dur } } = step s

/-- The words of 30_encoding.md R66 at the default widths. -/
def Obligations.SpecWordsDecodeAsListed : Prop :=
  decode Params.defaults 0x0000000 = .nop ∧ decode Params.defaults 0x0000002 = .read ∧
  decode Params.defaults 0x0000003 = .isplay ∧ decode Params.defaults 0x0000004 = .isread ∧
  decode Params.defaults 0x0000005 = .istrig ∧ decode Params.defaults 0x0014051 = .write 10 40 ∧
  decode Params.defaults 0x0014189 = .write 49 40 ∧ decode Params.defaults 0x7FFFFF9 = .write 255 65535

/-- 41_bus_arbiter.md R80 to R82 and 30_encoding.md R61: the frame's bits, and encoder and decoder are inverse. -/
def Obligations.NoteEncoderAndDecoderAreInverse : Prop :=
  (∀ n : Note, triggerBit (encodeNote n) = true ∧ (encodeNote n).getLsbD 6 = n.getLsbD 5 ∧
    (∀ k < 5, (encodeNote n).getLsbD k = n.getLsbD k) ∧ decodeNote (encodeNote n) = n) ∧
  (∀ l : Lines, (decodeNote l).getLsbD 5 = l.getLsbD 6 ∧ (∀ k < 5, (decodeNote l).getLsbD k = l.getLsbD k) ∧
    decodeNote (l ^^^ 0b0100000#7) = decodeNote l ∧ (triggerBit l = true → encodeNote (decodeNote l) = l))

/-! ### The step -/

/-- 44_host_commands.md R125: with `rst_n` = 1 the step executes the command on the command port. -/
def Obligations.StepExecutesThePresentedCommand : Prop :=
  ∀ s : State, s.cfg.legal = true → s.pins.rstN = true →
    step s = exec (decode s.cfg (packWord s.cfg s.pins.dur s.pins.note s.pins.cmd)) s

/-- The model's clock edge: the parameters stay, the schedule moves up by one, and the registers take `r`, or their reset
values if the next cycle has `rst_n` = 0 (40_cycle_step.md R71; log entries 1, 6). -/
def Obligations.ClockEdgeMovesTheEnvironment : Prop :=
  ∀ (s : State) (r : Regs s.cfg),
    (s.advance r).cfg = s.cfg ∧ (s.advance r).sched = s.sched.tail ∧ (s.advance r).cycle = s.cycle + 1 ∧
    (∀ io ios, s.sched = io :: ios → (s.advance r).pins = io) ∧
    ((s.advance r).pins.rstN = true → (s.advance r).regs = r) ∧
    ((s.advance r).pins.rstN = false → (s.advance r).regs = Regs.reset s.cfg)

/-- 44_host_commands.md R125: "A command is always accepted". Every command completes in every state. -/
def Obligations.EveryCommandCompletes : Prop :=
  ∀ (i : Instr) (s : State), ∃ r : Regs s.cfg, exec i s = .next (s.advance r)

/-- 40_cycle_step.md R75: the step is total, for every input; a parameter set outside 00_scope.md R7 is refused
(93_implementation_defined.md U2). -/
def Obligations.StepIsTotalOnLegalParameters : Prop :=
  ∀ s : State, (s.cfg.legal = true → ∃ r : Regs s.cfg, step s = .next (s.advance r)) ∧
    (s.cfg.legal = false → step s = .refused .illegalParameters)

/-- 40_cycle_step.md R70: the step is the pseudo-code's, register by register. -/
def Obligations.StepRefinesThePseudocode : Prop :=
  ∀ s : State, s.cfg.legal = true → step s = .next (s.advance (pseudocodeStep s.regs s.pins))

/-- 10_state.md R36: the outputs are functions of the registers alone. -/
def Obligations.OutputsAreFunctionsOfTheRegisters : Prop :=
  ∀ s : State,
    s.outputs.linkOe = s.regs.sup ∧ s.outputs.linkOut = s.regs.out ∧ s.outputs.note = s.regs.curNote ∧
    (s.outputs.playing = true ↔ s.regs.wstate ≠ .done) ∧ s.outputs.reading = s.regs.reading ∧
    s.outputs.irq = s.regs.triggered ∧ s.outputs.evtTime = s.regs.capTime ∧ s.outputs.rsp = s.regs.rsp ∧
    s.outputs.rspValid = s.regs.rspValid

/-! ### Reset -/

/-- 10_state.md R37: the reset value of every register, at every parameter set; State.reset holds them, and so does every
cycle with `rst_n` = 0 that a step leads to. -/
def Obligations.ResetValuesOfEveryRegister : Prop :=
  State.reset.regs = Regs.reset State.reset.cfg ∧
  (∀ s t : State, step s = .next t → t.pins.rstN = false → t.regs = Regs.reset t.cfg) ∧
  ∀ p : Params, let r := Regs.reset p
    r.now = 0 ∧ r.wstate = .done ∧ r.sup = false ∧ r.out = 0b0000000#7 ∧ r.wNote = 0 ∧ r.wDur = 0 ∧
    r.noteStamp = 0 ∧ r.pulseStamp = 0 ∧ r.pending = false ∧ r.capNote = 0 ∧ r.capTime = 0 ∧
    r.triggered = false ∧ r.reading = false ∧ r.relStamp = 0 ∧ r.curNote = 0 ∧ r.sync1 = 0b0100000#7 ∧
    r.sync2 = 0b0100000#7 ∧ r.trigPrev = true ∧ r.supD = 0b00#2 ∧ r.rsp = 0x00#8 ∧ r.rspValid = false

/-- 40_cycle_step.md R71: `rst_n` = 0 overrides every state and every other input; and the registers hold their reset values
throughout every cycle with `rst_n` = 0. -/
def Obligations.ResetOverridesEveryState : Prop :=
  (∀ s : State, s.cfg.legal = true → s.pins.rstN = false → step s = .next (s.advance (Regs.reset s.cfg))) ∧
  (∀ s t : State, step s = .next t → t.pins.rstN = false → t.regs = Regs.reset t.cfg)

/-- 70_reset_and_hazards.md R160: every output is 0 in a cycle with `rst_n` = 0 that a step leads to. -/
def Obligations.OutputsAreZeroDuringReset : Prop :=
  ∀ s t : State, step s = .next t → t.pins.rstN = false →
    t.outputs.linkOe = false ∧ t.outputs.linkOut = 0#7 ∧ t.outputs.note = 0#6 ∧ t.outputs.playing = false ∧
    t.outputs.reading = false ∧ t.outputs.irq = false ∧ t.outputs.evtTime.toNat = 0 ∧ t.outputs.rsp = 0#8 ∧
    t.outputs.rspValid = false

/-! ### Every cycle: time base, input conditioning, capture, sync, release -/

/-- 10_state.md R14: `NOW` counts ticks modulo 2^`W_T`, whatever the command. -/
def Obligations.TimeBaseCountsTicks : Prop :=
  ∀ (i : Instr) (s : State), ∃ r : Regs s.cfg, exec i s = .next (s.advance r) ∧
    r.now.toNat = (s.regs.now.toNat + if s.pins.tick then 1 else 0) % 2 ^ s.cfg.wT

/-- 10_state.md R31 to R33: the synchroniser, the previous trigger sample and the guard pipeline, whatever the command. -/
def Obligations.InputConditioningEveryCycle : Prop :=
  ∀ (i : Instr) (s : State), ∃ r : Regs s.cfg, exec i s = .next (s.advance r) ∧
    r.sync1 = s.pins.linkIn ∧ r.sync2 = s.regs.sync1 ∧ r.trigPrev = s.regs.sync2.getLsbD 5 ∧
    r.supD.getLsbD 0 = s.regs.sup ∧ r.supD.getLsbD 1 = s.regs.supD.getLsbD 0

/-- 42_read_path.md R92: the capture, and that nothing else writes its registers. -/
def Obligations.CaptureFillsTheMailbox : Prop :=
  ∀ (i : Instr) (s : State), ∃ r : Regs s.cfg, exec i s = .next (s.advance r) ∧
    ((s.regs.sync2.getLsbD 5 = true ∧ s.regs.trigPrev = false ∧ s.regs.sup = false ∧ s.regs.supD = 0#2 ∧
        s.regs.pending = false) →
      r.capNote = decodeNote s.regs.sync2 ∧ r.capTime = s.regs.now ∧ r.triggered = true ∧ r.pending = true) ∧
    (¬(s.regs.sync2.getLsbD 5 = true ∧ s.regs.trigPrev = false ∧ s.regs.sup = false ∧ s.regs.supD = 0#2 ∧
        s.regs.pending = false) →
      r.capNote = s.regs.capNote ∧ r.capTime = s.regs.capTime ∧ r.pending = false ∧
      (i ≠ .istrig → r.triggered = s.regs.triggered))

/-- 42_read_path.md R93: an edge under the guard, or while a capture is unconsumed, is lost: the cycle goes exactly as one
without an edge. -/
def Obligations.LostEdgeChangesNothing : Prop :=
  ∀ (i : Instr) (s : State), triggerEdge s.regs = true →
    (s.regs.sup = true ∨ s.regs.supD.getLsbD 0 = true ∨ s.regs.supD.getLsbD 1 = true ∨ s.regs.pending = true) →
    ∃ r : Regs s.cfg, exec i s = .next (s.advance r) ∧
      exec i { s with regs := { s.regs with trigPrev := true } } = .next (s.advance r)

/-- 42_read_path.md R94: the sync, whatever the command; an entry to `PULSE_ON` writes `CURNOTE` in its place. -/
def Obligations.SyncDeliversTheCapture : Prop :=
  ∀ (i : Instr) (s : State), s.regs.pending = true →
    ∃ r : Regs s.cfg, exec i s = .next (s.advance r) ∧
      r.reading = true ∧ r.relStamp = s.regs.now ∧ r.pending = false ∧
      (∀ n, PulseOnEntry s.regs i n → r.curNote = n) ∧
      ((∀ n, ¬PulseOnEntry s.regs i n) → r.curNote = s.regs.capNote)

/-- 42_read_path.md R95: without a sync, `READING` clears exactly when the release timer exceeds `T_REL`. -/
def Obligations.ReleaseClearsReadingAfterHysteresis : Prop :=
  ∀ (i : Instr) (s : State), s.regs.pending = false →
    ∃ r : Regs s.cfg, exec i s = .next (s.advance r) ∧ r.relStamp = s.regs.relStamp ∧
      (r.reading = true ↔ s.regs.reading = true ∧ (s.regs.now - s.regs.relStamp).toNat ≤ s.cfg.tRel)

/-- 10_state.md R30 and 40_cycle_step.md R72 a: the three writers of `CURNOTE` and their priority. -/
def Obligations.CurrentNotePriority : Prop :=
  ∀ (i : Instr) (s : State), ∃ r : Regs s.cfg, exec i s = .next (s.advance r) ∧
    (∀ n, PulseOnEntry s.regs i n → r.curNote = n) ∧
    ((∀ n, ¬PulseOnEntry s.regs i n) →
      r.curNote = if s.regs.pending then s.regs.capNote else s.regs.curNote)

/-- 42_read_path.md R96 and 40_cycle_step.md R72 b: the latch is set by a capture, cleared only by ISTRIG, and the set wins. -/
def Obligations.TriggerLatchSetWinsOverConsume : Prop :=
  ∀ (i : Instr) (s : State), ∃ r : Regs s.cfg, exec i s = .next (s.advance r) ∧
    (r.triggered = true ↔ captureNow s.regs = true ∨ (s.regs.triggered = true ∧ i ≠ .istrig))

/-! ### Commands -/

/-- 44_host_commands.md R127: WRITE of a note and of a rest; the request, the timers, the state, the lines, the current note
of a note, and the response register. -/
def Obligations.WriteStartsNoteOrRest : Prop :=
  ∀ (note : BitVec 8) (dur : Nat) (s : State), dur < 2 ^ s.cfg.wDur →
    ∃ r : Regs s.cfg, exec (.write note dur) s = .next (s.advance r) ∧
      r.wNote.toNat = note.toNat % 64 ∧ r.wDur.toNat = dur ∧ r.noteStamp = s.regs.now ∧
      r.pulseStamp = s.regs.now ∧ r.rspValid = false ∧ r.rsp = s.regs.rsp ∧
      (note.toNat ≤ 48 →
        r.wstate = .pulseOn ∧ r.sup = true ∧ r.out = encodeNote r.wNote ∧ r.curNote = r.wNote) ∧
      (48 < note.toNat →
        r.wstate = .restWait ∧ r.sup = false ∧ r.out = 0b0000000#7 ∧
        r.curNote = if s.regs.pending then s.regs.capNote else s.regs.curNote)

/-- 44_host_commands.md R127: "a WRITE does not touch the Read Path's registers": they, the time counter, the input
conditioning and the response register go as in a NOP cycle. -/
def Obligations.WriteLeavesTheReadPath : Prop :=
  ∀ (note : BitVec 8) (dur : Nat) (s : State), ∃ r n : Regs s.cfg,
    exec (.write note dur) s = .next (s.advance r) ∧ exec .nop s = .next (s.advance n) ∧
    r.now = n.now ∧ r.pending = n.pending ∧ r.capNote = n.capNote ∧ r.capTime = n.capTime ∧
    r.triggered = n.triggered ∧ r.reading = n.reading ∧ r.relStamp = n.relStamp ∧ r.sync1 = n.sync1 ∧
    r.sync2 = n.sync2 ∧ r.trigPrev = n.trigPrev ∧ r.supD = n.supD ∧ r.rsp = n.rsp ∧ r.rspValid = n.rspValid

/-- 43_write_path.md R113: after a WRITE the Write Path's registers depend only on its operands and `NOW`. -/
def Obligations.WriteStartsFresh : Prop :=
  ∀ (note : BitVec 8) (dur : Nat) (p : Params) (r r' : Regs p) (io io' : Inputs p) (q q' : List (Inputs p)) (c c' : Nat),
    r.now = r'.now →
    ∃ a a' : Regs p,
      exec (.write note dur) ⟨p, r, io, q, c⟩ = .next (State.advance ⟨p, r, io, q, c⟩ a) ∧
      exec (.write note dur) ⟨p, r', io', q', c'⟩ = .next (State.advance ⟨p, r', io', q', c'⟩ a') ∧
      a.wstate = a'.wstate ∧ a.sup = a'.sup ∧ a.out = a'.out ∧ a.wNote = a'.wNote ∧ a.wDur = a'.wDur ∧
      a.noteStamp = a'.noteStamp ∧ a.pulseStamp = a'.pulseStamp

/-- 44_host_commands.md R128: READ answers the pre-edge `CURNOTE` and otherwise goes as a NOP cycle (20_memory.md R47). -/
def Obligations.ReadAnswersTheCurrentNote : Prop :=
  SelectedBy .read 0b010#3 ∧ ∀ s : State, ∃ r : Regs s.cfg, exec .nop s = .next (s.advance r) ∧
    exec .read s = .next (s.advance { r with rsp := 0b00#2 ++ s.regs.curNote, rspValid := true })

/-- 44_host_commands.md R129: ISPLAY answers `WSTATE != DONE` and otherwise goes as a NOP cycle. -/
def Obligations.IsplayAnswersWhetherPlaying : Prop :=
  SelectedBy .isplay 0b011#3 ∧ ∀ s : State, ∃ r : Regs s.cfg, exec .nop s = .next (s.advance r) ∧
    exec .isplay s = .next (s.advance
      { r with rsp := if s.regs.wstate = .done then 0x00#8 else 0x01#8, rspValid := true })

/-- 44_host_commands.md R130: ISREAD answers `READING` and otherwise goes as a NOP cycle. -/
def Obligations.IsreadAnswersReading : Prop :=
  SelectedBy .isread 0b100#3 ∧ ∀ s : State, ∃ r : Regs s.cfg, exec .nop s = .next (s.advance r) ∧
    exec .isread s = .next (s.advance { r with rsp := if s.regs.reading then 0x01#8 else 0x00#8, rspValid := true })

/-- 44_host_commands.md R131: ISTRIG answers the pre-edge latch, clears it unless a capture sets it, and otherwise goes as a
NOP cycle. -/
def Obligations.IstrigAnswersAndConsumesTheLatch : Prop :=
  SelectedBy .istrig 0b101#3 ∧ ∀ s : State, ∃ r : Regs s.cfg, exec .nop s = .next (s.advance r) ∧
    exec .istrig s = .next (s.advance
      { r with
        rsp := if s.regs.triggered then 0x01#8 else 0x00#8, rspValid := true, triggered := captureNow s.regs })

/-- 44_host_commands.md R126: with the Write Path in `DONE`, no capture pending or made, `READING` at 0 and no tick, a NOP
cycle changes only the input conditioning's registers and clears `RSP_VALID`. -/
def Obligations.NopInAnIdleBlockChangesNoOtherRegister : Prop :=
  ∀ s : State, s.regs.wstate = .done → s.regs.pending = false → captureNow s.regs = false →
    s.regs.reading = false → s.pins.tick = false →
    exec .nop s = .next (s.advance
      { s.regs with
        sync1 := s.pins.linkIn, sync2 := s.regs.sync1, trigPrev := s.regs.sync2.getLsbD 5,
        supD := BitVec.ofBool (s.regs.supD.getLsbD 0) ++ BitVec.ofBool s.regs.sup, rspValid := false })

/-- 44_host_commands.md R132: the reserved opcodes are executed as NOP, and complete. -/
def Obligations.ReservedOpcodesActAsNop : Prop :=
  SelectedBy .rsvd6 0b110#3 ∧ SelectedBy .rsvd7 0b111#3 ∧
  ∀ s : State, exec .rsvd6 s = exec .nop s ∧ exec .rsvd7 s = exec .nop s ∧
    ∃ r : Regs s.cfg, exec .nop s = .next (s.advance r) ∧ r.rspValid = false ∧ r.rsp = s.regs.rsp

/-- 44_host_commands.md R133: the response protocol of every command. -/
def Obligations.ResponseProtocol : Prop :=
  ∀ (i : Instr) (s : State), ∃ r : Regs s.cfg, exec i s = .next (s.advance r) ∧
    (r.rspValid = true ↔ i = .read ∨ i = .isplay ∨ i = .isread ∨ i = .istrig) ∧
    (r.rspValid = false → r.rsp = s.regs.rsp) ∧ (r.rspValid = true → r.rsp.toNat < 64)

/-- 44_host_commands.md R134: the status outputs of a cycle are what the four queries of that cycle answer. -/
def Obligations.StatusOutputsMatchTheQueries : Prop :=
  ∀ s : State, ∃ a b c d : Regs s.cfg,
    exec .read s = .next (s.advance a) ∧ a.rsp.toNat = s.outputs.note.toNat ∧
    exec .isplay s = .next (s.advance b) ∧ b.rsp.toNat = s.outputs.playing.toNat ∧
    exec .isread s = .next (s.advance c) ∧ c.rsp.toNat = s.outputs.reading.toNat ∧
    exec .istrig s = .next (s.advance d) ∧ d.rsp.toNat = s.outputs.irq.toNat

/-! ### The write state machine, in every cycle without a WRITE -/

/-- 43_write_path.md R108 with R107: `PULSE_ON` ends exactly when the pulse timer exceeds `T_ON`. -/
def Obligations.PulseOnEndsAfterTheOnTime : Prop :=
  ∀ (i : Instr) (s : State), i.isWrite = false → s.regs.wstate = .pulseOn →
    ∃ r : Regs s.cfg, exec i s = .next (s.advance r) ∧
      r.wNote = s.regs.wNote ∧ r.wDur = s.regs.wDur ∧ r.noteStamp = s.regs.noteStamp ∧
      (s.cfg.tOn < (s.regs.now - s.regs.pulseStamp).toNat →
        r.wstate = .pulseOff ∧ r.sup = false ∧ r.out = 0b0000000#7 ∧ r.pulseStamp = s.regs.now) ∧
      ((s.regs.now - s.regs.pulseStamp).toNat ≤ s.cfg.tOn →
        r.wstate = .pulseOn ∧ r.sup = s.regs.sup ∧ r.out = s.regs.out ∧ r.pulseStamp = s.regs.pulseStamp)

/-- 43_write_path.md R109 with R106: after the off-time the pulse repeats or the note is done. -/
def Obligations.PulseOffRepeatsOrFinishes : Prop :=
  ∀ (i : Instr) (s : State), i.isWrite = false → s.regs.wstate = .pulseOff →
    ∃ r : Regs s.cfg, exec i s = .next (s.advance r) ∧
      r.wNote = s.regs.wNote ∧ r.wDur = s.regs.wDur ∧ r.noteStamp = s.regs.noteStamp ∧
      ((s.regs.now - s.regs.pulseStamp).toNat ≤ s.cfg.tOff →
        r.wstate = .pulseOff ∧ r.sup = s.regs.sup ∧ r.out = s.regs.out ∧ r.pulseStamp = s.regs.pulseStamp) ∧
      (s.cfg.tOff < (s.regs.now - s.regs.pulseStamp).toNat →
        ((s.regs.now - s.regs.noteStamp).toNat < s.regs.wDur.toNat →
          r.wstate = .pulseOn ∧ r.sup = true ∧ r.out = encodeNote s.regs.wNote ∧ r.pulseStamp = s.regs.now ∧
          r.curNote = s.regs.wNote) ∧
        (s.regs.wDur.toNat ≤ (s.regs.now - s.regs.noteStamp).toNat →
          r.wstate = .done ∧ r.sup = s.regs.sup ∧ r.out = s.regs.out ∧ r.pulseStamp = s.regs.pulseStamp))

/-- 43_write_path.md R110 and R111: a rest ends exactly when its duration is reached, and `DONE` is left by WRITE only. -/
def Obligations.RestEndsAtItsDurationAndDoneStays : Prop :=
  ∀ (i : Instr) (s : State), i.isWrite = false → s.regs.wstate = .restWait ∨ s.regs.wstate = .done →
    ∃ r : Regs s.cfg, exec i s = .next (s.advance r) ∧
      r.wNote = s.regs.wNote ∧ r.wDur = s.regs.wDur ∧ r.noteStamp = s.regs.noteStamp ∧
      r.pulseStamp = s.regs.pulseStamp ∧ r.sup = s.regs.sup ∧ r.out = s.regs.out ∧
      (r.wstate = .done ↔
        s.regs.wstate = .done ∨ s.regs.wDur.toNat ≤ (s.regs.now - s.regs.noteStamp).toNat) ∧
      (r.wstate ≠ .done → r.wstate = .restWait)

/-! ### Invariants that every step keeps -/

/-- 10_state.md R39 a, b: the bus invariant. -/
def Obligations.StepKeepsTheBusInvariant : Prop :=
  ∀ s t : State, s.regs.BusInv → step s = .next t → t.regs.BusInv

/-- 42_read_path.md R99: an edge never meets an unconsumed capture. -/
def Obligations.EdgeNeverMeetsAnUnconsumedCapture : Prop :=
  (∀ p : Params, ∀ r : Regs p, r.MailboxInv → triggerEdge r = true → r.pending = false) ∧
  ∀ s t : State, s.regs.MailboxInv → step s = .next t → t.regs.MailboxInv

/-- 30_encoding.md R58 and 44_host_commands.md R133: only playable notes are pulsed, and the response's high bits stay 0. -/
def Obligations.StepKeepsRequestAndResponseInRange : Prop :=
  ∀ s t : State, s.regs.RequestInv ∧ s.regs.ResponseInv → step s = .next t → t.regs.RequestInv ∧ t.regs.ResponseInv

/-- 70_reset_and_hazards.md R176: no elapsed time that a rule compares can wrap: each stays within a bound, and under
00_scope.md R7 every bound is below 2^`W_T`. -/
def Obligations.StepKeepsTimersBelowTheWrap : Prop :=
  (∀ s t : State, s.regs.TimerInv → step s = .next t → t.regs.TimerInv) ∧
  (∀ p : Params, p.legal = true → ∀ d : BitVec p.wDur,
    p.tOn + 1 < 2 ^ p.wT ∧ p.tOff + 1 < 2 ^ p.wT ∧ p.tRel + 1 < 2 ^ p.wT ∧ max d.toNat 1 < 2 ^ p.wT ∧
    (d.toNat - 1) + (p.tOn + 1) + (p.tOff + 1) < 2 ^ p.wT)

/-- 10_state.md R37, R39: the reset registers meet every invariant. -/
def Obligations.ResetMeetsEveryInvariant : Prop :=
  ∀ p : Params, (Regs.reset p).BusInv ∧ (Regs.reset p).MailboxInv ∧ (Regs.reset p).RequestInv ∧
    (Regs.reset p).ResponseInv ∧ (Regs.reset p).TimerInv ∧ (Regs.reset p).LoopbackInv ∧ State.reset.ResetHeld

/-- 70_reset_and_hazards.md R177: with a peer that keeps the trigger low, whatever the pads loop back while the block drives,
no cycle captures; and the condition that says so is kept by every step. -/
def Obligations.OwnPulseIsNeverCaptured : Prop :=
  (∀ p : Params, ∀ r : Regs p, r.LoopbackInv → captureNow r = false) ∧
  ∀ s t : State, s.regs.LoopbackInv → (triggerBit s.pins.linkIn = true → s.regs.sup = true) →
    step s = .next t → t.regs.LoopbackInv

/-! ### What one part cannot learn from another -/

/-- 42_read_path.md R100: receiving has no effect on the Write Path. Whatever the Read Path's registers and the link inputs
hold, the Write Path goes the same way. -/
def Obligations.ReceivingHasNoEffectOnTheWritePath : Prop :=
  ∀ (i : Instr) (p : Params) (r r' : Regs p) (io io' : Inputs p) (q q' : List (Inputs p)) (c c' : Nat),
    Regs.AgreeOnWritePath r r' → io'.tick = io.tick →
    ∃ a a' : Regs p, exec i ⟨p, r, io, q, c⟩ = .next (State.advance ⟨p, r, io, q, c⟩ a) ∧
      exec i ⟨p, r', io', q', c'⟩ = .next (State.advance ⟨p, r', io', q', c'⟩ a') ∧ Regs.AgreeOnWritePath a a'

/-- 10_state.md R39 d and 93_implementation_defined.md U5: the data levels sampled in a cycle in which the block drove the
lines reach no register but the synchroniser, and no output. -/
def Obligations.DataSampledWhileDrivingIsNeverUsed : Prop :=
  ∀ (p : Params) (r r' : Regs p) (io io' : Inputs p) (q q' : List (Inputs p)) (c c' : Nat), p.legal = true →
    Regs.AgreeButDriven r r' → Inputs.AgreeButDriven r.sup io io' →
    ∃ a a' : Regs p, step ⟨p, r, io, q, c⟩ = .next (State.advance ⟨p, r, io, q, c⟩ a) ∧
      step ⟨p, r', io', q', c'⟩ = .next (State.advance ⟨p, r', io', q', c'⟩ a') ∧
      Regs.AgreeButDriven a a' ∧ outputs a = outputs a'

/-! ### Runs -/

/-- 43_write_path.md R118: a rest of `d` units keeps `REST_WAIT` until `d` units are over (one cycle for `d` = 0), with the
lines released, and is then `DONE`; for every pattern of ticks. The state after `j + 1` cycles, the WRITE's the first. -/
def Obligations.RestLastsItsDuration : Prop :=
  ∀ (s : State) (j : Nat), s.cfg.legal = true → s.pins.rstN = true → s.pins.cmd = 0b001#3 → 48 < s.pins.note.toNat →
    j < s.sched.length → Undisturbed (s.sched.take (j + 1)) →
    ∃ t, Host.Core.run core (j + 1) s = .next t ∧ t.regs.sup = false ∧ t.regs.out = 0b0000000#7 ∧
      t.regs.wstate = if j = 0 ∨ tickCount (s.inputs.take j) < s.pins.dur.toNat then .restWait else .done

/-- 43_write_path.md R116 and R117: the whole waveform of a note of `d` units, for every pattern of ticks: `K` pulses, each
`T_ON` + 1 units on and `T_OFF` + 1 units off, then `DONE`; the lines carry the note exactly in the on phases. -/
def Obligations.NoteWaveformInTickUnits : Prop :=
  ∀ (s : State) (j : Nat), s.cfg.legal = true → s.pins.rstN = true → s.pins.cmd = 0b001#3 → s.pins.note.toNat ≤ 48 →
    j < s.sched.length → Undisturbed (s.sched.take (j + 1)) →
    ∃ t, Host.Core.run core (j + 1) s = .next t ∧
      t.regs.wstate = noteWaveform s.cfg s.pins.dur.toNat (tickCount (s.inputs.take j)) ∧
      (t.regs.wstate = .pulseOn →
        t.regs.sup = true ∧ t.regs.out = encodeNote (s.pins.note.extractLsb' 0 6)) ∧
      (t.regs.wstate ≠ .pulseOn → t.regs.sup = false ∧ t.regs.out = 0b0000000#7)

/-- 42_read_path.md R101: after a sync, `READING` stays 1 until `T_REL` + 1 units are over and is then 0, if no other sync
comes; for every pattern of ticks and every sequence of commands. -/
def Obligations.ReadingLastsTheHysteresis : Prop :=
  ∀ (s : State) (j : Nat), s.cfg.legal = true → s.pins.rstN = true → s.regs.pending = true → j < s.sched.length →
    NoReset (s.sched.take (j + 1)) →
    (∀ k, 1 ≤ k → k ≤ j → ∀ t : State, Host.Core.run core k s = .next t → t.regs.pending = false) →
    ∃ t, Host.Core.run core (j + 1) s = .next t ∧
      (t.regs.reading = true ↔ tickCount (s.inputs.take j) ≤ s.cfg.tRel)

/-- 70_reset_and_hazards.md R175: while no tick comes, a phase that is not over stays, with its lines, and `READING` stays 1. -/
def Obligations.WithoutTicksTheTimedStatesHold : Prop :=
  ∀ (s : State) (k : Nat), s.cfg.legal = true → k ≤ s.sched.length → Undisturbed (s.inputs.take (k + 1)) →
    NoTick (s.inputs.take (k + 1)) →
    ∃ t, Host.Core.run core k s = .next t ∧
      ((s.regs.wstate = .pulseOn ∧ pulseOnOver s.regs = false) ∨
          (s.regs.wstate = .pulseOff ∧ pulseOffOver s.regs = false) ∨
          (s.regs.wstate = .restWait ∧ durationReached s.regs = false) ∨ s.regs.wstate = .done →
        t.regs.wstate = s.regs.wstate ∧ t.regs.sup = s.regs.sup ∧ t.regs.out = s.regs.out) ∧
      (s.regs.reading = true → releaseOver s.regs = false → t.regs.reading = true)

/-- 42_read_path.md R98: the latency of a received note. The trigger is sampled low at the end of the first cycle (m - 1) and
high at the end of the second (m); if the guard is 0 in cycle m + 2, the capture is in the mailbox and on `irq_o` in cycle
m + 3, and in `CURNOTE` and `READING` in cycle m + 4 unless an entry to `PULSE_ON` wrote `CURNOTE`. -/
def Obligations.ReceivedNoteLatency : Prop :=
  ∀ (p : Params) (r : Regs p) (io0 io1 io2 io3 io4 io5 : Inputs p) (rest : List (Inputs p)) (c : Nat),
    p.legal = true → NoReset [io0, io1, io2, io3, io4, io5] →
    triggerBit io0.linkIn = false → triggerBit io1.linkIn = true →
    let s : State := ⟨p, r, io0, io1 :: io2 :: io3 :: io4 :: io5 :: rest, c⟩
    ∃ t3 t4 t5 : State, Host.Core.run core 3 s = .next t3 ∧ Host.Core.run core 4 s = .next t4 ∧
      Host.Core.run core 5 s = .next t5 ∧ triggerEdge t3.regs = true ∧
      (guardActive t3.regs = false →
        t4.regs.pending = true ∧ t4.regs.triggered = true ∧ t4.regs.capNote = decodeNote io1.linkIn ∧
        t4.regs.capTime.toNat = t3.regs.now.toNat ∧
        t5.regs.pending = false ∧ t5.regs.reading = true ∧ t5.regs.relStamp.toNat = t4.regs.now.toNat ∧
        ((∀ n, ¬PulseOnEntry t4.regs (decode p io4.commandWord) n) → t5.regs.curNote = decodeNote io1.linkIn))

/-- 70_reset_and_hazards.md R163: whatever the inputs, no capture in cycles 1 to 3 after reset. -/
def Obligations.NoCaptureInTheFirstThreeCycles : Prop :=
  ∀ s : State, s.regs = Regs.reset s.cfg → ∀ k ≤ 2, ∀ t : State, Host.Core.run core k s = .next t →
    captureNow t.regs = false

/-- 70_reset_and_hazards.md R163: with the trigger sampled low at the end of cycle 1 and high at the end of cycle 2, and no
WRITE, there is a capture in cycle 4, `irq_o` = 1 in cycle 5 and the note on `note_o` in cycle 6. -/
def Obligations.EarliestCaptureIsInCycleFour : Prop :=
  ∀ (p : Params) (io1 io2 io3 io4 io5 io6 : Inputs p) (rest : List (Inputs p)) (c : Nat),
    p.legal = true → Undisturbed [io1, io2, io3, io4, io5, io6] →
    triggerBit io1.linkIn = false → triggerBit io2.linkIn = true →
    let s : State := ⟨p, Regs.reset p, io1, io2 :: io3 :: io4 :: io5 :: io6 :: rest, c⟩
    ∃ t4 t5 t6 : State, Host.Core.run core 3 s = .next t4 ∧ captureNow t4.regs = true ∧
      Host.Core.run core 4 s = .next t5 ∧ t5.outputs.irq = true ∧
      Host.Core.run core 5 s = .next t6 ∧ t6.outputs.note = decodeNote io2.linkIn

/-- 70_reset_and_hazards.md R163: "A trigger line that is high during reset and stays high produces no capture". -/
def Obligations.HighTriggerSinceResetNeverCaptures : Prop :=
  ∀ (s : State) (k : Nat), s.cfg.legal = true → s.regs = Regs.reset s.cfg → k ≤ s.sched.length →
    (∀ io ∈ s.inputs.take k, triggerBit io.linkIn = true) →
    ∃ t, Host.Core.run core k s = .next t ∧ captureNow t.regs = false

/-- 42_read_path.md R97: consume-once. An ISTRIG answers the latch; in every later cycle up to the next capture the latch is 0
and an ISTRIG answers 0. -/
def Obligations.TriggerIsConsumedOnce : Prop :=
  ∀ (s : State) (k : Nat), s.cfg.legal = true → s.pins.rstN = true → s.pins.cmd = 0b101#3 → k < s.sched.length →
    NoReset (s.sched.take (k + 1)) →
    (∀ j ≤ k, ∀ t : State, Host.Core.run core j s = .next t → captureNow t.regs = false) →
    (∃ t, Host.Core.run core 1 s = .next t ∧ t.regs.rspValid = true ∧
      t.regs.rsp = if s.regs.triggered then 0x01#8 else 0x00#8) ∧
    ∃ t, Host.Core.run core (k + 1) s = .next t ∧ t.regs.triggered = false ∧
      ∃ r : Regs t.cfg, exec .istrig t = .next (t.advance r) ∧ r.rsp = 0x00#8 ∧ r.rspValid = true

/-- 43_write_path.md R119: a note WRITE during a pulse changes the data lines while the trigger line stays driven high. -/
def Obligations.NoteWriteDuringAPulseMakesNoEdge : Prop :=
  ∀ (note : BitVec 8) (dur : Nat) (s : State), s.regs.BusInv → s.regs.wstate = .pulseOn → note.toNat ≤ 48 →
    ∃ r : Regs s.cfg, exec (.write note dur) s = .next (s.advance r) ∧
      (outputs s.regs).linkOe = true ∧ triggerBit (outputs s.regs).linkOut = true ∧
      (outputs r).linkOe = true ∧ triggerBit (outputs r).linkOut = true ∧
      (outputs r).linkOut = encodeNote (note.extractLsb' 0 6)

/-- 60_exceptions.md R146: a capture and a note WRITE in one cycle both take effect, and the next cycle's sync writes the
captured note over the transmitted one. -/
def Obligations.CaptureInTheCycleOfAWriteIsDelivered : Prop :=
  ∀ (p : Params) (r : Regs p) (io0 io1 io2 : Inputs p) (rest : List (Inputs p)) (c : Nat),
    p.legal = true → NoReset [io0, io1, io2] → io0.cmd = 0b001#3 → io0.note.toNat ≤ 48 →
    io1.cmd ≠ 0b001#3 → captureNow r = true →
    let s : State := ⟨p, r, io0, io1 :: io2 :: rest, c⟩
    ∃ t1 t2 : State, Host.Core.run core 1 s = .next t1 ∧ Host.Core.run core 2 s = .next t2 ∧
      t1.regs.sup = true ∧ t1.regs.pending = true ∧ t1.regs.triggered = true ∧
      t1.regs.curNote = io0.note.extractLsb' 0 6 ∧
      t2.regs.curNote = decodeNote r.sync2 ∧ t2.regs.reading = true
end

