-- ==== Sys2Proof/Laws/State.lean ====
section
/-! SUPPORT. One lemma per register per operation: what the operation leaves in it. All are simp lemmas, so that no proof
unfolds a record update. The Write Path's advance has its case lemmas in Laws/Ops.lean; here are the registers it never writes. -/

namespace Sys2Proof.Machine

variable {p : Params}

/-! ### `timeBase` -/

@[simp] theorem timeBase_now (r n : Regs p) (tick : Bool) : (timeBase r n tick).now = r.now + (BitVec.ofBool tick).setWidth p.wT := rfl
@[simp] theorem timeBase_wstate (r n : Regs p) (tick : Bool) : (timeBase r n tick).wstate = n.wstate := rfl
@[simp] theorem timeBase_sup (r n : Regs p) (tick : Bool) : (timeBase r n tick).sup = n.sup := rfl
@[simp] theorem timeBase_out (r n : Regs p) (tick : Bool) : (timeBase r n tick).out = n.out := rfl
@[simp] theorem timeBase_wNote (r n : Regs p) (tick : Bool) : (timeBase r n tick).wNote = n.wNote := rfl
@[simp] theorem timeBase_wDur (r n : Regs p) (tick : Bool) : (timeBase r n tick).wDur = n.wDur := rfl
@[simp] theorem timeBase_noteStamp (r n : Regs p) (tick : Bool) : (timeBase r n tick).noteStamp = n.noteStamp := rfl
@[simp] theorem timeBase_pulseStamp (r n : Regs p) (tick : Bool) : (timeBase r n tick).pulseStamp = n.pulseStamp := rfl
@[simp] theorem timeBase_pending (r n : Regs p) (tick : Bool) : (timeBase r n tick).pending = n.pending := rfl
@[simp] theorem timeBase_capNote (r n : Regs p) (tick : Bool) : (timeBase r n tick).capNote = n.capNote := rfl
@[simp] theorem timeBase_capTime (r n : Regs p) (tick : Bool) : (timeBase r n tick).capTime = n.capTime := rfl
@[simp] theorem timeBase_triggered (r n : Regs p) (tick : Bool) : (timeBase r n tick).triggered = n.triggered := rfl
@[simp] theorem timeBase_reading (r n : Regs p) (tick : Bool) : (timeBase r n tick).reading = n.reading := rfl
@[simp] theorem timeBase_relStamp (r n : Regs p) (tick : Bool) : (timeBase r n tick).relStamp = n.relStamp := rfl
@[simp] theorem timeBase_curNote (r n : Regs p) (tick : Bool) : (timeBase r n tick).curNote = n.curNote := rfl
@[simp] theorem timeBase_sync1 (r n : Regs p) (tick : Bool) : (timeBase r n tick).sync1 = n.sync1 := rfl
@[simp] theorem timeBase_sync2 (r n : Regs p) (tick : Bool) : (timeBase r n tick).sync2 = n.sync2 := rfl
@[simp] theorem timeBase_trigPrev (r n : Regs p) (tick : Bool) : (timeBase r n tick).trigPrev = n.trigPrev := rfl
@[simp] theorem timeBase_supD (r n : Regs p) (tick : Bool) : (timeBase r n tick).supD = n.supD := rfl
@[simp] theorem timeBase_rsp (r n : Regs p) (tick : Bool) : (timeBase r n tick).rsp = n.rsp := rfl
@[simp] theorem timeBase_rspValid (r n : Regs p) (tick : Bool) : (timeBase r n tick).rspValid = n.rspValid := rfl

/-! ### `conditionInputs` -/

@[simp] theorem conditionInputs_now (r n : Regs p) (l : Lines) : (conditionInputs r n l).now = n.now := rfl
@[simp] theorem conditionInputs_wstate (r n : Regs p) (l : Lines) : (conditionInputs r n l).wstate = n.wstate := rfl
@[simp] theorem conditionInputs_sup (r n : Regs p) (l : Lines) : (conditionInputs r n l).sup = n.sup := rfl
@[simp] theorem conditionInputs_out (r n : Regs p) (l : Lines) : (conditionInputs r n l).out = n.out := rfl
@[simp] theorem conditionInputs_wNote (r n : Regs p) (l : Lines) : (conditionInputs r n l).wNote = n.wNote := rfl
@[simp] theorem conditionInputs_wDur (r n : Regs p) (l : Lines) : (conditionInputs r n l).wDur = n.wDur := rfl
@[simp] theorem conditionInputs_noteStamp (r n : Regs p) (l : Lines) : (conditionInputs r n l).noteStamp = n.noteStamp := rfl
@[simp] theorem conditionInputs_pulseStamp (r n : Regs p) (l : Lines) : (conditionInputs r n l).pulseStamp = n.pulseStamp := rfl
@[simp] theorem conditionInputs_pending (r n : Regs p) (l : Lines) : (conditionInputs r n l).pending = n.pending := rfl
@[simp] theorem conditionInputs_capNote (r n : Regs p) (l : Lines) : (conditionInputs r n l).capNote = n.capNote := rfl
@[simp] theorem conditionInputs_capTime (r n : Regs p) (l : Lines) : (conditionInputs r n l).capTime = n.capTime := rfl
@[simp] theorem conditionInputs_triggered (r n : Regs p) (l : Lines) : (conditionInputs r n l).triggered = n.triggered := rfl
@[simp] theorem conditionInputs_reading (r n : Regs p) (l : Lines) : (conditionInputs r n l).reading = n.reading := rfl
@[simp] theorem conditionInputs_relStamp (r n : Regs p) (l : Lines) : (conditionInputs r n l).relStamp = n.relStamp := rfl
@[simp] theorem conditionInputs_curNote (r n : Regs p) (l : Lines) : (conditionInputs r n l).curNote = n.curNote := rfl
@[simp] theorem conditionInputs_sync1 (r n : Regs p) (l : Lines) : (conditionInputs r n l).sync1 = l := rfl
@[simp] theorem conditionInputs_sync2 (r n : Regs p) (l : Lines) : (conditionInputs r n l).sync2 = r.sync1 := rfl
@[simp] theorem conditionInputs_trigPrev (r n : Regs p) (l : Lines) : (conditionInputs r n l).trigPrev = triggerBit r.sync2 := rfl
@[simp] theorem conditionInputs_supD (r n : Regs p) (l : Lines) : (conditionInputs r n l).supD = r.supD.extractLsb' 0 1 ++ BitVec.ofBool r.sup := rfl
@[simp] theorem conditionInputs_rsp (r n : Regs p) (l : Lines) : (conditionInputs r n l).rsp = n.rsp := rfl
@[simp] theorem conditionInputs_rspValid (r n : Regs p) (l : Lines) : (conditionInputs r n l).rspValid = n.rspValid := rfl

/-! ### `respond` -/

@[simp] theorem respond_now (n : Regs p) (v : Response) : (respond n v).now = n.now := rfl
@[simp] theorem respond_wstate (n : Regs p) (v : Response) : (respond n v).wstate = n.wstate := rfl
@[simp] theorem respond_sup (n : Regs p) (v : Response) : (respond n v).sup = n.sup := rfl
@[simp] theorem respond_out (n : Regs p) (v : Response) : (respond n v).out = n.out := rfl
@[simp] theorem respond_wNote (n : Regs p) (v : Response) : (respond n v).wNote = n.wNote := rfl
@[simp] theorem respond_wDur (n : Regs p) (v : Response) : (respond n v).wDur = n.wDur := rfl
@[simp] theorem respond_noteStamp (n : Regs p) (v : Response) : (respond n v).noteStamp = n.noteStamp := rfl
@[simp] theorem respond_pulseStamp (n : Regs p) (v : Response) : (respond n v).pulseStamp = n.pulseStamp := rfl
@[simp] theorem respond_pending (n : Regs p) (v : Response) : (respond n v).pending = n.pending := rfl
@[simp] theorem respond_capNote (n : Regs p) (v : Response) : (respond n v).capNote = n.capNote := rfl
@[simp] theorem respond_capTime (n : Regs p) (v : Response) : (respond n v).capTime = n.capTime := rfl
@[simp] theorem respond_triggered (n : Regs p) (v : Response) : (respond n v).triggered = n.triggered := rfl
@[simp] theorem respond_reading (n : Regs p) (v : Response) : (respond n v).reading = n.reading := rfl
@[simp] theorem respond_relStamp (n : Regs p) (v : Response) : (respond n v).relStamp = n.relStamp := rfl
@[simp] theorem respond_curNote (n : Regs p) (v : Response) : (respond n v).curNote = n.curNote := rfl
@[simp] theorem respond_sync1 (n : Regs p) (v : Response) : (respond n v).sync1 = n.sync1 := rfl
@[simp] theorem respond_sync2 (n : Regs p) (v : Response) : (respond n v).sync2 = n.sync2 := rfl
@[simp] theorem respond_trigPrev (n : Regs p) (v : Response) : (respond n v).trigPrev = n.trigPrev := rfl
@[simp] theorem respond_supD (n : Regs p) (v : Response) : (respond n v).supD = n.supD := rfl
@[simp] theorem respond_rsp (n : Regs p) (v : Response) : (respond n v).rsp = v := rfl
@[simp] theorem respond_rspValid (n : Regs p) (v : Response) : (respond n v).rspValid = true := rfl

/-! ### `noResponse` -/

@[simp] theorem noResponse_now (n : Regs p) : (noResponse n).now = n.now := rfl
@[simp] theorem noResponse_wstate (n : Regs p) : (noResponse n).wstate = n.wstate := rfl
@[simp] theorem noResponse_sup (n : Regs p) : (noResponse n).sup = n.sup := rfl
@[simp] theorem noResponse_out (n : Regs p) : (noResponse n).out = n.out := rfl
@[simp] theorem noResponse_wNote (n : Regs p) : (noResponse n).wNote = n.wNote := rfl
@[simp] theorem noResponse_wDur (n : Regs p) : (noResponse n).wDur = n.wDur := rfl
@[simp] theorem noResponse_noteStamp (n : Regs p) : (noResponse n).noteStamp = n.noteStamp := rfl
@[simp] theorem noResponse_pulseStamp (n : Regs p) : (noResponse n).pulseStamp = n.pulseStamp := rfl
@[simp] theorem noResponse_pending (n : Regs p) : (noResponse n).pending = n.pending := rfl
@[simp] theorem noResponse_capNote (n : Regs p) : (noResponse n).capNote = n.capNote := rfl
@[simp] theorem noResponse_capTime (n : Regs p) : (noResponse n).capTime = n.capTime := rfl
@[simp] theorem noResponse_triggered (n : Regs p) : (noResponse n).triggered = n.triggered := rfl
@[simp] theorem noResponse_reading (n : Regs p) : (noResponse n).reading = n.reading := rfl
@[simp] theorem noResponse_relStamp (n : Regs p) : (noResponse n).relStamp = n.relStamp := rfl
@[simp] theorem noResponse_curNote (n : Regs p) : (noResponse n).curNote = n.curNote := rfl
@[simp] theorem noResponse_sync1 (n : Regs p) : (noResponse n).sync1 = n.sync1 := rfl
@[simp] theorem noResponse_sync2 (n : Regs p) : (noResponse n).sync2 = n.sync2 := rfl
@[simp] theorem noResponse_trigPrev (n : Regs p) : (noResponse n).trigPrev = n.trigPrev := rfl
@[simp] theorem noResponse_supD (n : Regs p) : (noResponse n).supD = n.supD := rfl
@[simp] theorem noResponse_rsp (n : Regs p) : (noResponse n).rsp = n.rsp := rfl
@[simp] theorem noResponse_rspValid (n : Regs p) : (noResponse n).rspValid = false := rfl

/-! ### `enterPulseOn` -/

@[simp] theorem enterPulseOn_now (r n : Regs p) (m : Note) : (enterPulseOn r n m).now = n.now := rfl
@[simp] theorem enterPulseOn_wstate (r n : Regs p) (m : Note) : (enterPulseOn r n m).wstate = .pulseOn := rfl
@[simp] theorem enterPulseOn_sup (r n : Regs p) (m : Note) : (enterPulseOn r n m).sup = true := rfl
@[simp] theorem enterPulseOn_out (r n : Regs p) (m : Note) : (enterPulseOn r n m).out = encodeNote m := rfl
@[simp] theorem enterPulseOn_wNote (r n : Regs p) (m : Note) : (enterPulseOn r n m).wNote = n.wNote := rfl
@[simp] theorem enterPulseOn_wDur (r n : Regs p) (m : Note) : (enterPulseOn r n m).wDur = n.wDur := rfl
@[simp] theorem enterPulseOn_noteStamp (r n : Regs p) (m : Note) : (enterPulseOn r n m).noteStamp = n.noteStamp := rfl
@[simp] theorem enterPulseOn_pulseStamp (r n : Regs p) (m : Note) : (enterPulseOn r n m).pulseStamp = r.now := rfl
@[simp] theorem enterPulseOn_pending (r n : Regs p) (m : Note) : (enterPulseOn r n m).pending = n.pending := rfl
@[simp] theorem enterPulseOn_capNote (r n : Regs p) (m : Note) : (enterPulseOn r n m).capNote = n.capNote := rfl
@[simp] theorem enterPulseOn_capTime (r n : Regs p) (m : Note) : (enterPulseOn r n m).capTime = n.capTime := rfl
@[simp] theorem enterPulseOn_triggered (r n : Regs p) (m : Note) : (enterPulseOn r n m).triggered = n.triggered := rfl
@[simp] theorem enterPulseOn_reading (r n : Regs p) (m : Note) : (enterPulseOn r n m).reading = n.reading := rfl
@[simp] theorem enterPulseOn_relStamp (r n : Regs p) (m : Note) : (enterPulseOn r n m).relStamp = n.relStamp := rfl
@[simp] theorem enterPulseOn_curNote (r n : Regs p) (m : Note) : (enterPulseOn r n m).curNote = m := rfl
@[simp] theorem enterPulseOn_sync1 (r n : Regs p) (m : Note) : (enterPulseOn r n m).sync1 = n.sync1 := rfl
@[simp] theorem enterPulseOn_sync2 (r n : Regs p) (m : Note) : (enterPulseOn r n m).sync2 = n.sync2 := rfl
@[simp] theorem enterPulseOn_trigPrev (r n : Regs p) (m : Note) : (enterPulseOn r n m).trigPrev = n.trigPrev := rfl
@[simp] theorem enterPulseOn_supD (r n : Regs p) (m : Note) : (enterPulseOn r n m).supD = n.supD := rfl
@[simp] theorem enterPulseOn_rsp (r n : Regs p) (m : Note) : (enterPulseOn r n m).rsp = n.rsp := rfl
@[simp] theorem enterPulseOn_rspValid (r n : Regs p) (m : Note) : (enterPulseOn r n m).rspValid = n.rspValid := rfl

/-! ### `enterPulseOff` -/

@[simp] theorem enterPulseOff_now (r n : Regs p) : (enterPulseOff r n).now = n.now := rfl
@[simp] theorem enterPulseOff_wstate (r n : Regs p) : (enterPulseOff r n).wstate = .pulseOff := rfl
@[simp] theorem enterPulseOff_sup (r n : Regs p) : (enterPulseOff r n).sup = false := rfl
@[simp] theorem enterPulseOff_out (r n : Regs p) : (enterPulseOff r n).out = 0b0000000#7 := rfl
@[simp] theorem enterPulseOff_wNote (r n : Regs p) : (enterPulseOff r n).wNote = n.wNote := rfl
@[simp] theorem enterPulseOff_wDur (r n : Regs p) : (enterPulseOff r n).wDur = n.wDur := rfl
@[simp] theorem enterPulseOff_noteStamp (r n : Regs p) : (enterPulseOff r n).noteStamp = n.noteStamp := rfl
@[simp] theorem enterPulseOff_pulseStamp (r n : Regs p) : (enterPulseOff r n).pulseStamp = r.now := rfl
@[simp] theorem enterPulseOff_pending (r n : Regs p) : (enterPulseOff r n).pending = n.pending := rfl
@[simp] theorem enterPulseOff_capNote (r n : Regs p) : (enterPulseOff r n).capNote = n.capNote := rfl
@[simp] theorem enterPulseOff_capTime (r n : Regs p) : (enterPulseOff r n).capTime = n.capTime := rfl
@[simp] theorem enterPulseOff_triggered (r n : Regs p) : (enterPulseOff r n).triggered = n.triggered := rfl
@[simp] theorem enterPulseOff_reading (r n : Regs p) : (enterPulseOff r n).reading = n.reading := rfl
@[simp] theorem enterPulseOff_relStamp (r n : Regs p) : (enterPulseOff r n).relStamp = n.relStamp := rfl
@[simp] theorem enterPulseOff_curNote (r n : Regs p) : (enterPulseOff r n).curNote = n.curNote := rfl
@[simp] theorem enterPulseOff_sync1 (r n : Regs p) : (enterPulseOff r n).sync1 = n.sync1 := rfl
@[simp] theorem enterPulseOff_sync2 (r n : Regs p) : (enterPulseOff r n).sync2 = n.sync2 := rfl
@[simp] theorem enterPulseOff_trigPrev (r n : Regs p) : (enterPulseOff r n).trigPrev = n.trigPrev := rfl
@[simp] theorem enterPulseOff_supD (r n : Regs p) : (enterPulseOff r n).supD = n.supD := rfl
@[simp] theorem enterPulseOff_rsp (r n : Regs p) : (enterPulseOff r n).rsp = n.rsp := rfl
@[simp] theorem enterPulseOff_rspValid (r n : Regs p) : (enterPulseOff r n).rspValid = n.rspValid := rfl

/-! ### `enterRestWait` -/

@[simp] theorem enterRestWait_now (n : Regs p) : (enterRestWait n).now = n.now := rfl
@[simp] theorem enterRestWait_wstate (n : Regs p) : (enterRestWait n).wstate = .restWait := rfl
@[simp] theorem enterRestWait_sup (n : Regs p) : (enterRestWait n).sup = false := rfl
@[simp] theorem enterRestWait_out (n : Regs p) : (enterRestWait n).out = 0b0000000#7 := rfl
@[simp] theorem enterRestWait_wNote (n : Regs p) : (enterRestWait n).wNote = n.wNote := rfl
@[simp] theorem enterRestWait_wDur (n : Regs p) : (enterRestWait n).wDur = n.wDur := rfl
@[simp] theorem enterRestWait_noteStamp (n : Regs p) : (enterRestWait n).noteStamp = n.noteStamp := rfl
@[simp] theorem enterRestWait_pulseStamp (n : Regs p) : (enterRestWait n).pulseStamp = n.pulseStamp := rfl
@[simp] theorem enterRestWait_pending (n : Regs p) : (enterRestWait n).pending = n.pending := rfl
@[simp] theorem enterRestWait_capNote (n : Regs p) : (enterRestWait n).capNote = n.capNote := rfl
@[simp] theorem enterRestWait_capTime (n : Regs p) : (enterRestWait n).capTime = n.capTime := rfl
@[simp] theorem enterRestWait_triggered (n : Regs p) : (enterRestWait n).triggered = n.triggered := rfl
@[simp] theorem enterRestWait_reading (n : Regs p) : (enterRestWait n).reading = n.reading := rfl
@[simp] theorem enterRestWait_relStamp (n : Regs p) : (enterRestWait n).relStamp = n.relStamp := rfl
@[simp] theorem enterRestWait_curNote (n : Regs p) : (enterRestWait n).curNote = n.curNote := rfl
@[simp] theorem enterRestWait_sync1 (n : Regs p) : (enterRestWait n).sync1 = n.sync1 := rfl
@[simp] theorem enterRestWait_sync2 (n : Regs p) : (enterRestWait n).sync2 = n.sync2 := rfl
@[simp] theorem enterRestWait_trigPrev (n : Regs p) : (enterRestWait n).trigPrev = n.trigPrev := rfl
@[simp] theorem enterRestWait_supD (n : Regs p) : (enterRestWait n).supD = n.supD := rfl
@[simp] theorem enterRestWait_rsp (n : Regs p) : (enterRestWait n).rsp = n.rsp := rfl
@[simp] theorem enterRestWait_rspValid (n : Regs p) : (enterRestWait n).rspValid = n.rspValid := rfl

/-! ### `enterDone` -/

@[simp] theorem enterDone_now (n : Regs p) : (enterDone n).now = n.now := rfl
@[simp] theorem enterDone_wstate (n : Regs p) : (enterDone n).wstate = .done := rfl
@[simp] theorem enterDone_sup (n : Regs p) : (enterDone n).sup = n.sup := rfl
@[simp] theorem enterDone_out (n : Regs p) : (enterDone n).out = n.out := rfl
@[simp] theorem enterDone_wNote (n : Regs p) : (enterDone n).wNote = n.wNote := rfl
@[simp] theorem enterDone_wDur (n : Regs p) : (enterDone n).wDur = n.wDur := rfl
@[simp] theorem enterDone_noteStamp (n : Regs p) : (enterDone n).noteStamp = n.noteStamp := rfl
@[simp] theorem enterDone_pulseStamp (n : Regs p) : (enterDone n).pulseStamp = n.pulseStamp := rfl
@[simp] theorem enterDone_pending (n : Regs p) : (enterDone n).pending = n.pending := rfl
@[simp] theorem enterDone_capNote (n : Regs p) : (enterDone n).capNote = n.capNote := rfl
@[simp] theorem enterDone_capTime (n : Regs p) : (enterDone n).capTime = n.capTime := rfl
@[simp] theorem enterDone_triggered (n : Regs p) : (enterDone n).triggered = n.triggered := rfl
@[simp] theorem enterDone_reading (n : Regs p) : (enterDone n).reading = n.reading := rfl
@[simp] theorem enterDone_relStamp (n : Regs p) : (enterDone n).relStamp = n.relStamp := rfl
@[simp] theorem enterDone_curNote (n : Regs p) : (enterDone n).curNote = n.curNote := rfl
@[simp] theorem enterDone_sync1 (n : Regs p) : (enterDone n).sync1 = n.sync1 := rfl
@[simp] theorem enterDone_sync2 (n : Regs p) : (enterDone n).sync2 = n.sync2 := rfl
@[simp] theorem enterDone_trigPrev (n : Regs p) : (enterDone n).trigPrev = n.trigPrev := rfl
@[simp] theorem enterDone_supD (n : Regs p) : (enterDone n).supD = n.supD := rfl
@[simp] theorem enterDone_rsp (n : Regs p) : (enterDone n).rsp = n.rsp := rfl
@[simp] theorem enterDone_rspValid (n : Regs p) : (enterDone n).rspValid = n.rspValid := rfl

/-! ### `loadRequest` -/

@[simp] theorem loadRequest_now (r n : Regs p) (m : BitVec 8) (d : Nat) : (loadRequest r n m d).now = n.now := rfl
@[simp] theorem loadRequest_wstate (r n : Regs p) (m : BitVec 8) (d : Nat) : (loadRequest r n m d).wstate = n.wstate := rfl
@[simp] theorem loadRequest_sup (r n : Regs p) (m : BitVec 8) (d : Nat) : (loadRequest r n m d).sup = n.sup := rfl
@[simp] theorem loadRequest_out (r n : Regs p) (m : BitVec 8) (d : Nat) : (loadRequest r n m d).out = n.out := rfl
@[simp] theorem loadRequest_wNote (r n : Regs p) (m : BitVec 8) (d : Nat) : (loadRequest r n m d).wNote = storedNote m := rfl
@[simp] theorem loadRequest_wDur (r n : Regs p) (m : BitVec 8) (d : Nat) : (loadRequest r n m d).wDur = storedDur p d := rfl
@[simp] theorem loadRequest_noteStamp (r n : Regs p) (m : BitVec 8) (d : Nat) : (loadRequest r n m d).noteStamp = r.now := rfl
@[simp] theorem loadRequest_pulseStamp (r n : Regs p) (m : BitVec 8) (d : Nat) : (loadRequest r n m d).pulseStamp = r.now := rfl
@[simp] theorem loadRequest_pending (r n : Regs p) (m : BitVec 8) (d : Nat) : (loadRequest r n m d).pending = n.pending := rfl
@[simp] theorem loadRequest_capNote (r n : Regs p) (m : BitVec 8) (d : Nat) : (loadRequest r n m d).capNote = n.capNote := rfl
@[simp] theorem loadRequest_capTime (r n : Regs p) (m : BitVec 8) (d : Nat) : (loadRequest r n m d).capTime = n.capTime := rfl
@[simp] theorem loadRequest_triggered (r n : Regs p) (m : BitVec 8) (d : Nat) : (loadRequest r n m d).triggered = n.triggered := rfl
@[simp] theorem loadRequest_reading (r n : Regs p) (m : BitVec 8) (d : Nat) : (loadRequest r n m d).reading = n.reading := rfl
@[simp] theorem loadRequest_relStamp (r n : Regs p) (m : BitVec 8) (d : Nat) : (loadRequest r n m d).relStamp = n.relStamp := rfl
@[simp] theorem loadRequest_curNote (r n : Regs p) (m : BitVec 8) (d : Nat) : (loadRequest r n m d).curNote = n.curNote := rfl
@[simp] theorem loadRequest_sync1 (r n : Regs p) (m : BitVec 8) (d : Nat) : (loadRequest r n m d).sync1 = n.sync1 := rfl
@[simp] theorem loadRequest_sync2 (r n : Regs p) (m : BitVec 8) (d : Nat) : (loadRequest r n m d).sync2 = n.sync2 := rfl
@[simp] theorem loadRequest_trigPrev (r n : Regs p) (m : BitVec 8) (d : Nat) : (loadRequest r n m d).trigPrev = n.trigPrev := rfl
@[simp] theorem loadRequest_supD (r n : Regs p) (m : BitVec 8) (d : Nat) : (loadRequest r n m d).supD = n.supD := rfl
@[simp] theorem loadRequest_rsp (r n : Regs p) (m : BitVec 8) (d : Nat) : (loadRequest r n m d).rsp = n.rsp := rfl
@[simp] theorem loadRequest_rspValid (r n : Regs p) (m : BitVec 8) (d : Nat) : (loadRequest r n m d).rspValid = n.rspValid := rfl

/-! ### `capture` -/

@[simp] theorem capture_now (r n : Regs p) :
    (capture r n).now = n.now := by
  unfold capture; repeat' split
  all_goals rfl
@[simp] theorem capture_wstate (r n : Regs p) :
    (capture r n).wstate = n.wstate := by
  unfold capture; repeat' split
  all_goals rfl
@[simp] theorem capture_sup (r n : Regs p) :
    (capture r n).sup = n.sup := by
  unfold capture; repeat' split
  all_goals rfl
@[simp] theorem capture_out (r n : Regs p) :
    (capture r n).out = n.out := by
  unfold capture; repeat' split
  all_goals rfl
@[simp] theorem capture_wNote (r n : Regs p) :
    (capture r n).wNote = n.wNote := by
  unfold capture; repeat' split
  all_goals rfl
@[simp] theorem capture_wDur (r n : Regs p) :
    (capture r n).wDur = n.wDur := by
  unfold capture; repeat' split
  all_goals rfl
@[simp] theorem capture_noteStamp (r n : Regs p) :
    (capture r n).noteStamp = n.noteStamp := by
  unfold capture; repeat' split
  all_goals rfl
@[simp] theorem capture_pulseStamp (r n : Regs p) :
    (capture r n).pulseStamp = n.pulseStamp := by
  unfold capture; repeat' split
  all_goals rfl
@[simp] theorem capture_pending (r n : Regs p) :
    (capture r n).pending = captureNow r := by
  cases h : captureNow r <;> simp [capture, h]
@[simp] theorem capture_capNote (r n : Regs p) :
    (capture r n).capNote = if captureNow r then decodeNote r.sync2 else n.capNote := by
  cases h : captureNow r <;> simp [capture, h]
@[simp] theorem capture_capTime (r n : Regs p) :
    (capture r n).capTime = if captureNow r then r.now else n.capTime := by
  cases h : captureNow r <;> simp [capture, h]
@[simp] theorem capture_triggered (r n : Regs p) :
    (capture r n).triggered = (captureNow r || n.triggered) := by
  cases h : captureNow r <;> simp [capture, h]
@[simp] theorem capture_reading (r n : Regs p) :
    (capture r n).reading = n.reading := by
  unfold capture; repeat' split
  all_goals rfl
@[simp] theorem capture_relStamp (r n : Regs p) :
    (capture r n).relStamp = n.relStamp := by
  unfold capture; repeat' split
  all_goals rfl
@[simp] theorem capture_curNote (r n : Regs p) :
    (capture r n).curNote = n.curNote := by
  unfold capture; repeat' split
  all_goals rfl
@[simp] theorem capture_sync1 (r n : Regs p) :
    (capture r n).sync1 = n.sync1 := by
  unfold capture; repeat' split
  all_goals rfl
@[simp] theorem capture_sync2 (r n : Regs p) :
    (capture r n).sync2 = n.sync2 := by
  unfold capture; repeat' split
  all_goals rfl
@[simp] theorem capture_trigPrev (r n : Regs p) :
    (capture r n).trigPrev = n.trigPrev := by
  unfold capture; repeat' split
  all_goals rfl
@[simp] theorem capture_supD (r n : Regs p) :
    (capture r n).supD = n.supD := by
  unfold capture; repeat' split
  all_goals rfl
@[simp] theorem capture_rsp (r n : Regs p) :
    (capture r n).rsp = n.rsp := by
  unfold capture; repeat' split
  all_goals rfl
@[simp] theorem capture_rspValid (r n : Regs p) :
    (capture r n).rspValid = n.rspValid := by
  unfold capture; repeat' split
  all_goals rfl

/-! ### `syncRelease` -/

@[simp] theorem syncRelease_now (r n : Regs p) :
    (syncRelease r n).now = n.now := by
  unfold syncRelease; repeat' split
  all_goals rfl
@[simp] theorem syncRelease_wstate (r n : Regs p) :
    (syncRelease r n).wstate = n.wstate := by
  unfold syncRelease; repeat' split
  all_goals rfl
@[simp] theorem syncRelease_sup (r n : Regs p) :
    (syncRelease r n).sup = n.sup := by
  unfold syncRelease; repeat' split
  all_goals rfl
@[simp] theorem syncRelease_out (r n : Regs p) :
    (syncRelease r n).out = n.out := by
  unfold syncRelease; repeat' split
  all_goals rfl
@[simp] theorem syncRelease_wNote (r n : Regs p) :
    (syncRelease r n).wNote = n.wNote := by
  unfold syncRelease; repeat' split
  all_goals rfl
@[simp] theorem syncRelease_wDur (r n : Regs p) :
    (syncRelease r n).wDur = n.wDur := by
  unfold syncRelease; repeat' split
  all_goals rfl
@[simp] theorem syncRelease_noteStamp (r n : Regs p) :
    (syncRelease r n).noteStamp = n.noteStamp := by
  unfold syncRelease; repeat' split
  all_goals rfl
@[simp] theorem syncRelease_pulseStamp (r n : Regs p) :
    (syncRelease r n).pulseStamp = n.pulseStamp := by
  unfold syncRelease; repeat' split
  all_goals rfl
@[simp] theorem syncRelease_pending (r n : Regs p) :
    (syncRelease r n).pending = n.pending := by
  unfold syncRelease; repeat' split
  all_goals rfl
@[simp] theorem syncRelease_capNote (r n : Regs p) :
    (syncRelease r n).capNote = n.capNote := by
  unfold syncRelease; repeat' split
  all_goals rfl
@[simp] theorem syncRelease_capTime (r n : Regs p) :
    (syncRelease r n).capTime = n.capTime := by
  unfold syncRelease; repeat' split
  all_goals rfl
@[simp] theorem syncRelease_triggered (r n : Regs p) :
    (syncRelease r n).triggered = n.triggered := by
  unfold syncRelease; repeat' split
  all_goals rfl
@[simp] theorem syncRelease_reading (r n : Regs p) :
    (syncRelease r n).reading = (r.pending || (n.reading && !(r.reading && releaseOver r))) := by
  cases h1 : r.pending <;> cases h2 : r.reading <;> cases h3 : releaseOver r <;> simp [syncRelease, h1, h2, h3]
@[simp] theorem syncRelease_relStamp (r n : Regs p) :
    (syncRelease r n).relStamp = if r.pending then r.now else n.relStamp := by
  cases h1 : r.pending <;> cases h2 : r.reading <;> cases h3 : releaseOver r <;> simp [syncRelease, h1, h2, h3]
@[simp] theorem syncRelease_curNote (r n : Regs p) :
    (syncRelease r n).curNote = if r.pending then r.capNote else n.curNote := by
  cases h1 : r.pending <;> cases h2 : r.reading <;> cases h3 : releaseOver r <;> simp [syncRelease, h1, h2, h3]
@[simp] theorem syncRelease_sync1 (r n : Regs p) :
    (syncRelease r n).sync1 = n.sync1 := by
  unfold syncRelease; repeat' split
  all_goals rfl
@[simp] theorem syncRelease_sync2 (r n : Regs p) :
    (syncRelease r n).sync2 = n.sync2 := by
  unfold syncRelease; repeat' split
  all_goals rfl
@[simp] theorem syncRelease_trigPrev (r n : Regs p) :
    (syncRelease r n).trigPrev = n.trigPrev := by
  unfold syncRelease; repeat' split
  all_goals rfl
@[simp] theorem syncRelease_supD (r n : Regs p) :
    (syncRelease r n).supD = n.supD := by
  unfold syncRelease; repeat' split
  all_goals rfl
@[simp] theorem syncRelease_rsp (r n : Regs p) :
    (syncRelease r n).rsp = n.rsp := by
  unfold syncRelease; repeat' split
  all_goals rfl
@[simp] theorem syncRelease_rspValid (r n : Regs p) :
    (syncRelease r n).rspValid = n.rspValid := by
  unfold syncRelease; repeat' split
  all_goals rfl

/-! ### `consumeTrigger` -/

@[simp] theorem consumeTrigger_now (r n : Regs p) :
    (consumeTrigger r n).now = n.now := by
  unfold consumeTrigger; repeat' split
  all_goals rfl
@[simp] theorem consumeTrigger_wstate (r n : Regs p) :
    (consumeTrigger r n).wstate = n.wstate := by
  unfold consumeTrigger; repeat' split
  all_goals rfl
@[simp] theorem consumeTrigger_sup (r n : Regs p) :
    (consumeTrigger r n).sup = n.sup := by
  unfold consumeTrigger; repeat' split
  all_goals rfl
@[simp] theorem consumeTrigger_out (r n : Regs p) :
    (consumeTrigger r n).out = n.out := by
  unfold consumeTrigger; repeat' split
  all_goals rfl
@[simp] theorem consumeTrigger_wNote (r n : Regs p) :
    (consumeTrigger r n).wNote = n.wNote := by
  unfold consumeTrigger; repeat' split
  all_goals rfl
@[simp] theorem consumeTrigger_wDur (r n : Regs p) :
    (consumeTrigger r n).wDur = n.wDur := by
  unfold consumeTrigger; repeat' split
  all_goals rfl
@[simp] theorem consumeTrigger_noteStamp (r n : Regs p) :
    (consumeTrigger r n).noteStamp = n.noteStamp := by
  unfold consumeTrigger; repeat' split
  all_goals rfl
@[simp] theorem consumeTrigger_pulseStamp (r n : Regs p) :
    (consumeTrigger r n).pulseStamp = n.pulseStamp := by
  unfold consumeTrigger; repeat' split
  all_goals rfl
@[simp] theorem consumeTrigger_pending (r n : Regs p) :
    (consumeTrigger r n).pending = n.pending := by
  unfold consumeTrigger; repeat' split
  all_goals rfl
@[simp] theorem consumeTrigger_capNote (r n : Regs p) :
    (consumeTrigger r n).capNote = n.capNote := by
  unfold consumeTrigger; repeat' split
  all_goals rfl
@[simp] theorem consumeTrigger_capTime (r n : Regs p) :
    (consumeTrigger r n).capTime = n.capTime := by
  unfold consumeTrigger; repeat' split
  all_goals rfl
@[simp] theorem consumeTrigger_triggered (r n : Regs p) :
    (consumeTrigger r n).triggered = (captureNow r && n.triggered) := by
  cases h : captureNow r <;> simp [consumeTrigger, h]
@[simp] theorem consumeTrigger_reading (r n : Regs p) :
    (consumeTrigger r n).reading = n.reading := by
  unfold consumeTrigger; repeat' split
  all_goals rfl
@[simp] theorem consumeTrigger_relStamp (r n : Regs p) :
    (consumeTrigger r n).relStamp = n.relStamp := by
  unfold consumeTrigger; repeat' split
  all_goals rfl
@[simp] theorem consumeTrigger_curNote (r n : Regs p) :
    (consumeTrigger r n).curNote = n.curNote := by
  unfold consumeTrigger; repeat' split
  all_goals rfl
@[simp] theorem consumeTrigger_sync1 (r n : Regs p) :
    (consumeTrigger r n).sync1 = n.sync1 := by
  unfold consumeTrigger; repeat' split
  all_goals rfl
@[simp] theorem consumeTrigger_sync2 (r n : Regs p) :
    (consumeTrigger r n).sync2 = n.sync2 := by
  unfold consumeTrigger; repeat' split
  all_goals rfl
@[simp] theorem consumeTrigger_trigPrev (r n : Regs p) :
    (consumeTrigger r n).trigPrev = n.trigPrev := by
  unfold consumeTrigger; repeat' split
  all_goals rfl
@[simp] theorem consumeTrigger_supD (r n : Regs p) :
    (consumeTrigger r n).supD = n.supD := by
  unfold consumeTrigger; repeat' split
  all_goals rfl
@[simp] theorem consumeTrigger_rsp (r n : Regs p) :
    (consumeTrigger r n).rsp = n.rsp := by
  unfold consumeTrigger; repeat' split
  all_goals rfl
@[simp] theorem consumeTrigger_rspValid (r n : Regs p) :
    (consumeTrigger r n).rspValid = n.rspValid := by
  unfold consumeTrigger; repeat' split
  all_goals rfl

/-! ### `advanceWritePath` -/

@[simp] theorem advanceWritePath_now (r n : Regs p) :
    (advanceWritePath r n).now = n.now := by
  unfold advanceWritePath; repeat' split
  all_goals rfl
@[simp] theorem advanceWritePath_wNote (r n : Regs p) :
    (advanceWritePath r n).wNote = n.wNote := by
  unfold advanceWritePath; repeat' split
  all_goals rfl
@[simp] theorem advanceWritePath_wDur (r n : Regs p) :
    (advanceWritePath r n).wDur = n.wDur := by
  unfold advanceWritePath; repeat' split
  all_goals rfl
@[simp] theorem advanceWritePath_noteStamp (r n : Regs p) :
    (advanceWritePath r n).noteStamp = n.noteStamp := by
  unfold advanceWritePath; repeat' split
  all_goals rfl
@[simp] theorem advanceWritePath_pending (r n : Regs p) :
    (advanceWritePath r n).pending = n.pending := by
  unfold advanceWritePath; repeat' split
  all_goals rfl
@[simp] theorem advanceWritePath_capNote (r n : Regs p) :
    (advanceWritePath r n).capNote = n.capNote := by
  unfold advanceWritePath; repeat' split
  all_goals rfl
@[simp] theorem advanceWritePath_capTime (r n : Regs p) :
    (advanceWritePath r n).capTime = n.capTime := by
  unfold advanceWritePath; repeat' split
  all_goals rfl
@[simp] theorem advanceWritePath_triggered (r n : Regs p) :
    (advanceWritePath r n).triggered = n.triggered := by
  unfold advanceWritePath; repeat' split
  all_goals rfl
@[simp] theorem advanceWritePath_reading (r n : Regs p) :
    (advanceWritePath r n).reading = n.reading := by
  unfold advanceWritePath; repeat' split
  all_goals rfl
@[simp] theorem advanceWritePath_relStamp (r n : Regs p) :
    (advanceWritePath r n).relStamp = n.relStamp := by
  unfold advanceWritePath; repeat' split
  all_goals rfl
@[simp] theorem advanceWritePath_sync1 (r n : Regs p) :
    (advanceWritePath r n).sync1 = n.sync1 := by
  unfold advanceWritePath; repeat' split
  all_goals rfl
@[simp] theorem advanceWritePath_sync2 (r n : Regs p) :
    (advanceWritePath r n).sync2 = n.sync2 := by
  unfold advanceWritePath; repeat' split
  all_goals rfl
@[simp] theorem advanceWritePath_trigPrev (r n : Regs p) :
    (advanceWritePath r n).trigPrev = n.trigPrev := by
  unfold advanceWritePath; repeat' split
  all_goals rfl
@[simp] theorem advanceWritePath_supD (r n : Regs p) :
    (advanceWritePath r n).supD = n.supD := by
  unfold advanceWritePath; repeat' split
  all_goals rfl
@[simp] theorem advanceWritePath_rsp (r n : Regs p) :
    (advanceWritePath r n).rsp = n.rsp := by
  unfold advanceWritePath; repeat' split
  all_goals rfl
@[simp] theorem advanceWritePath_rspValid (r n : Regs p) :
    (advanceWritePath r n).rspValid = n.rspValid := by
  unfold advanceWritePath; repeat' split
  all_goals rfl

/-! ### `doWrite` -/

@[simp] theorem doWrite_now (r n : Regs p) (m : BitVec 8) (d : Nat) :
    (doWrite r n m d).now = n.now := by
  unfold doWrite; repeat' split
  all_goals rfl
@[simp] theorem doWrite_wstate (r n : Regs p) (m : BitVec 8) (d : Nat) :
    (doWrite r n m d).wstate = if isPlayable m then .pulseOn else .restWait := by
  cases h : isPlayable m <;> simp [doWrite, h]
@[simp] theorem doWrite_sup (r n : Regs p) (m : BitVec 8) (d : Nat) :
    (doWrite r n m d).sup = isPlayable m := by
  cases h : isPlayable m <;> simp [doWrite, h]
@[simp] theorem doWrite_out (r n : Regs p) (m : BitVec 8) (d : Nat) :
    (doWrite r n m d).out = if isPlayable m then encodeNote (storedNote m) else 0b0000000#7 := by
  cases h : isPlayable m <;> simp [doWrite, h]
@[simp] theorem doWrite_wNote (r n : Regs p) (m : BitVec 8) (d : Nat) :
    (doWrite r n m d).wNote = storedNote m := by
  cases h : isPlayable m <;> simp [doWrite, h]
@[simp] theorem doWrite_wDur (r n : Regs p) (m : BitVec 8) (d : Nat) :
    (doWrite r n m d).wDur = storedDur p d := by
  cases h : isPlayable m <;> simp [doWrite, h]
@[simp] theorem doWrite_noteStamp (r n : Regs p) (m : BitVec 8) (d : Nat) :
    (doWrite r n m d).noteStamp = r.now := by
  cases h : isPlayable m <;> simp [doWrite, h]
@[simp] theorem doWrite_pulseStamp (r n : Regs p) (m : BitVec 8) (d : Nat) :
    (doWrite r n m d).pulseStamp = r.now := by
  cases h : isPlayable m <;> simp [doWrite, h]
@[simp] theorem doWrite_pending (r n : Regs p) (m : BitVec 8) (d : Nat) :
    (doWrite r n m d).pending = n.pending := by
  unfold doWrite; repeat' split
  all_goals rfl
@[simp] theorem doWrite_capNote (r n : Regs p) (m : BitVec 8) (d : Nat) :
    (doWrite r n m d).capNote = n.capNote := by
  unfold doWrite; repeat' split
  all_goals rfl
@[simp] theorem doWrite_capTime (r n : Regs p) (m : BitVec 8) (d : Nat) :
    (doWrite r n m d).capTime = n.capTime := by
  unfold doWrite; repeat' split
  all_goals rfl
@[simp] theorem doWrite_triggered (r n : Regs p) (m : BitVec 8) (d : Nat) :
    (doWrite r n m d).triggered = n.triggered := by
  unfold doWrite; repeat' split
  all_goals rfl
@[simp] theorem doWrite_reading (r n : Regs p) (m : BitVec 8) (d : Nat) :
    (doWrite r n m d).reading = n.reading := by
  unfold doWrite; repeat' split
  all_goals rfl
@[simp] theorem doWrite_relStamp (r n : Regs p) (m : BitVec 8) (d : Nat) :
    (doWrite r n m d).relStamp = n.relStamp := by
  unfold doWrite; repeat' split
  all_goals rfl
@[simp] theorem doWrite_curNote (r n : Regs p) (m : BitVec 8) (d : Nat) :
    (doWrite r n m d).curNote = if isPlayable m then storedNote m else n.curNote := by
  cases h : isPlayable m <;> simp [doWrite, h]
@[simp] theorem doWrite_sync1 (r n : Regs p) (m : BitVec 8) (d : Nat) :
    (doWrite r n m d).sync1 = n.sync1 := by
  unfold doWrite; repeat' split
  all_goals rfl
@[simp] theorem doWrite_sync2 (r n : Regs p) (m : BitVec 8) (d : Nat) :
    (doWrite r n m d).sync2 = n.sync2 := by
  unfold doWrite; repeat' split
  all_goals rfl
@[simp] theorem doWrite_trigPrev (r n : Regs p) (m : BitVec 8) (d : Nat) :
    (doWrite r n m d).trigPrev = n.trigPrev := by
  unfold doWrite; repeat' split
  all_goals rfl
@[simp] theorem doWrite_supD (r n : Regs p) (m : BitVec 8) (d : Nat) :
    (doWrite r n m d).supD = n.supD := by
  unfold doWrite; repeat' split
  all_goals rfl
@[simp] theorem doWrite_rsp (r n : Regs p) (m : BitVec 8) (d : Nat) :
    (doWrite r n m d).rsp = n.rsp := by
  unfold doWrite; repeat' split
  all_goals rfl
@[simp] theorem doWrite_rspValid (r n : Regs p) (m : BitVec 8) (d : Nat) :
    (doWrite r n m d).rspValid = n.rspValid := by
  unfold doWrite; repeat' split
  all_goals rfl

/-! ### `State.advance` -/

@[simp] theorem State.advance_cfg (s : State) (r : Regs s.cfg) : (s.advance r).cfg = s.cfg := rfl
@[simp] theorem State.advance_pins (s : State) (r : Regs s.cfg) : (s.advance r).pins = s.nextPins := rfl
@[simp] theorem State.advance_sched (s : State) (r : Regs s.cfg) : (s.advance r).sched = s.sched.tail := rfl
@[simp] theorem State.advance_cycle (s : State) (r : Regs s.cfg) : (s.advance r).cycle = s.cycle + 1 := rfl
@[simp] theorem State.advance_regs (s : State) (r : Regs s.cfg) : (s.advance r).regs = if s.nextPins.rstN then r else Regs.reset s.cfg := rfl

end Sys2Proof.Machine
end

