-- ==== Sys2Proof/Laws/Ops.lean ====
section
/-! SUPPORT. What each shared operation can do, said once, and the next value of every register that `everyCycle` gives. -/

namespace Sys2Proof.Machine

variable {p : Params}

theorem capture_cases (r n : Regs p) :
    (captureNow r = true ∧ capture r n =
      { n with capNote := decodeNote r.sync2, capTime := r.now, pending := true, triggered := true }) ∨
    (captureNow r = false ∧ capture r n = { n with pending := false }) := by
  cases h : captureNow r <;> simp [capture, h]

theorem captureNow_iff (r : Regs p) :
    captureNow r = true ↔ triggerBit r.sync2 = true ∧ r.trigPrev = false ∧ guardActive r = false ∧ r.pending = false := by
  simp [captureNow, triggerEdge, and_assoc]

theorem guardActive_eq_false_iff (r : Regs p) :
    guardActive r = false ↔ r.sup = false ∧ r.supD.getLsbD 0 = false ∧ r.supD.getLsbD 1 = false := by
  simp only [guardActive, Bool.or_eq_false_iff, and_assoc]

theorem syncRelease_cases (r n : Regs p) :
    (r.pending = true ∧ syncRelease r n = { n with curNote := r.capNote, reading := true, relStamp := r.now }) ∨
    (r.pending = false ∧ r.reading = true ∧ releaseOver r = true ∧ syncRelease r n = { n with reading := false }) ∨
    (r.pending = false ∧ (r.reading = false ∨ releaseOver r = false) ∧ syncRelease r n = n) := by
  cases h1 : r.pending <;> cases h2 : r.reading <;> cases h3 : releaseOver r <;> simp [syncRelease, h1, h2, h3]

theorem consumeTrigger_cases (r n : Regs p) :
    (captureNow r = true ∧ consumeTrigger r n = n) ∨
    (captureNow r = false ∧ consumeTrigger r n = { n with triggered := false }) := by
  cases h : captureNow r <;> simp [consumeTrigger, h]

/-- Everything the Write Path's own transition can do. -/
theorem advanceWritePath_cases (r n : Regs p) :
    (r.wstate = .done ∧ advanceWritePath r n = n) ∨
    (r.wstate = .pulseOn ∧ pulseOnOver r = false ∧ advanceWritePath r n = n) ∨
    (r.wstate = .pulseOn ∧ pulseOnOver r = true ∧ advanceWritePath r n = enterPulseOff r n) ∨
    (r.wstate = .pulseOff ∧ pulseOffOver r = false ∧ advanceWritePath r n = n) ∨
    (r.wstate = .pulseOff ∧ pulseOffOver r = true ∧ durationReached r = false ∧
      advanceWritePath r n = enterPulseOn r n r.wNote) ∨
    (r.wstate = .pulseOff ∧ pulseOffOver r = true ∧ durationReached r = true ∧ advanceWritePath r n = enterDone n) ∨
    (r.wstate = .restWait ∧ durationReached r = false ∧ advanceWritePath r n = n) ∨
    (r.wstate = .restWait ∧ durationReached r = true ∧ advanceWritePath r n = enterDone n) := by
  cases h : r.wstate <;> cases h1 : pulseOnOver r <;> cases h2 : pulseOffOver r <;> cases h3 : durationReached r <;>
    simp [advanceWritePath, h, h1, h2, h3]

theorem doWrite_cases (r n : Regs p) (m : BitVec 8) (d : Nat) :
    (m.toNat ≤ 48 ∧ doWrite r n m d = enterPulseOn r (loadRequest r n m d) (storedNote m)) ∨
    (48 < m.toNat ∧ doWrite r n m d = enterRestWait (loadRequest r n m d)) := by
  by_cases h : m.toNat ≤ 48
  · exact .inl ⟨h, by simp [doWrite, isPlayable, BitVec.le_def, h]⟩
  · exact .inr ⟨by omega, by simp [doWrite, isPlayable, BitVec.le_def, h]⟩

theorem isPlayable_iff (m : BitVec 8) : isPlayable m = true ↔ m.toNat ≤ 48 := by
  simp [isPlayable, BitVec.le_def]

theorem storedNote_toNat (m : BitVec 8) : (storedNote m).toNat = m.toNat % 64 := by
  simp [storedNote, BitVec.extractLsb'_toNat]

theorem pulseOnOver_iff (r : Regs p) : pulseOnOver r = true ↔ p.tOn < (elapsed r r.pulseStamp).toNat := by
  simp [pulseOnOver, exceeds]

theorem pulseOffOver_iff (r : Regs p) : pulseOffOver r = true ↔ p.tOff < (elapsed r r.pulseStamp).toNat := by
  simp [pulseOffOver, exceeds]

theorem releaseOver_iff (r : Regs p) : releaseOver r = true ↔ p.tRel < (elapsed r r.relStamp).toNat := by
  simp [releaseOver, exceeds]

theorem durationReached_iff (r : Regs p) :
    durationReached r = true ↔ r.wDur.toNat ≤ (elapsed r r.noteStamp).toNat := by
  simp [durationReached]

/-! ### `everyCycle`: 40_cycle_step.md R70 up to the command -/

@[simp] theorem everyCycle_now (r : Regs p) (io : Inputs p) :
    (everyCycle r io).now = r.now + (BitVec.ofBool io.tick).setWidth p.wT := by simp [everyCycle]
@[simp] theorem everyCycle_wstate (r : Regs p) (io : Inputs p) :
    (everyCycle r io).wstate = r.wstate := by simp [everyCycle]
@[simp] theorem everyCycle_sup (r : Regs p) (io : Inputs p) :
    (everyCycle r io).sup = r.sup := by simp [everyCycle]
@[simp] theorem everyCycle_out (r : Regs p) (io : Inputs p) :
    (everyCycle r io).out = r.out := by simp [everyCycle]
@[simp] theorem everyCycle_wNote (r : Regs p) (io : Inputs p) :
    (everyCycle r io).wNote = r.wNote := by simp [everyCycle]
@[simp] theorem everyCycle_wDur (r : Regs p) (io : Inputs p) :
    (everyCycle r io).wDur = r.wDur := by simp [everyCycle]
@[simp] theorem everyCycle_noteStamp (r : Regs p) (io : Inputs p) :
    (everyCycle r io).noteStamp = r.noteStamp := by simp [everyCycle]
@[simp] theorem everyCycle_pulseStamp (r : Regs p) (io : Inputs p) :
    (everyCycle r io).pulseStamp = r.pulseStamp := by simp [everyCycle]
@[simp] theorem everyCycle_pending (r : Regs p) (io : Inputs p) :
    (everyCycle r io).pending = captureNow r := by simp [everyCycle]
@[simp] theorem everyCycle_capNote (r : Regs p) (io : Inputs p) :
    (everyCycle r io).capNote = if captureNow r then decodeNote r.sync2 else r.capNote := by simp [everyCycle]
@[simp] theorem everyCycle_capTime (r : Regs p) (io : Inputs p) :
    (everyCycle r io).capTime = if captureNow r then r.now else r.capTime := by simp [everyCycle]
@[simp] theorem everyCycle_triggered (r : Regs p) (io : Inputs p) :
    (everyCycle r io).triggered = (captureNow r || r.triggered) := by simp [everyCycle]
@[simp] theorem everyCycle_reading (r : Regs p) (io : Inputs p) :
    (everyCycle r io).reading = (r.pending || (r.reading && !releaseOver r)) := by
  cases h : r.reading <;> simp [everyCycle, h]
@[simp] theorem everyCycle_relStamp (r : Regs p) (io : Inputs p) :
    (everyCycle r io).relStamp = if r.pending then r.now else r.relStamp := by simp [everyCycle]
@[simp] theorem everyCycle_curNote (r : Regs p) (io : Inputs p) :
    (everyCycle r io).curNote = if r.pending then r.capNote else r.curNote := by simp [everyCycle]
@[simp] theorem everyCycle_sync1 (r : Regs p) (io : Inputs p) :
    (everyCycle r io).sync1 = io.linkIn := by simp [everyCycle]
@[simp] theorem everyCycle_sync2 (r : Regs p) (io : Inputs p) :
    (everyCycle r io).sync2 = r.sync1 := by simp [everyCycle]
@[simp] theorem everyCycle_trigPrev (r : Regs p) (io : Inputs p) :
    (everyCycle r io).trigPrev = triggerBit r.sync2 := by simp [everyCycle]
@[simp] theorem everyCycle_supD (r : Regs p) (io : Inputs p) :
    (everyCycle r io).supD = r.supD.extractLsb' 0 1 ++ BitVec.ofBool r.sup := by simp [everyCycle]
@[simp] theorem everyCycle_rsp (r : Regs p) (io : Inputs p) :
    (everyCycle r io).rsp = r.rsp := by simp [everyCycle]
@[simp] theorem everyCycle_rspValid (r : Regs p) (io : Inputs p) :
    (everyCycle r io).rspValid = r.rspValid := by simp [everyCycle]

end Sys2Proof.Machine
end

