-- ==== Sys2Proof/Laws/Exec.lean ====
section
/-! SUPPORT. `exec` arm by arm and `step` case by case, so that no proof unfolds them, and the next input levels. -/

namespace Sys2Proof.Machine

variable {p : Params}

/-- The registers a cycle's edge latches when command `i` is presented: what every arm of `exec` hands to `State.advance`. -/
def latched (i : Instr) (r : Regs p) (io : Inputs p) : Regs p :=
  match i with
  | .nop | .rsvd6 | .rsvd7 => advanceWritePath r (noResponse (everyCycle r io))
  | .write note dur => doWrite r (noResponse (everyCycle r io)) note dur
  | .read => advanceWritePath r (respond (everyCycle r io) (readResponse r))
  | .isplay => advanceWritePath r (respond (everyCycle r io) (isplayResponse r))
  | .isread => advanceWritePath r (respond (everyCycle r io) (isreadResponse r))
  | .istrig => advanceWritePath r (respond (consumeTrigger r (everyCycle r io)) (istrigResponse r))

/-! ### What `latched` gives whatever the command -/
@[simp] theorem latched_now (i : Instr) (r : Regs p) (io : Inputs p) :
    (latched i r io).now = r.now + (BitVec.ofBool io.tick).setWidth p.wT := by cases i <;> simp [latched]
@[simp] theorem latched_pending (i : Instr) (r : Regs p) (io : Inputs p) :
    (latched i r io).pending = captureNow r := by cases i <;> simp [latched]
@[simp] theorem latched_capNote (i : Instr) (r : Regs p) (io : Inputs p) :
    (latched i r io).capNote = if captureNow r then decodeNote r.sync2 else r.capNote := by cases i <;> simp [latched]
@[simp] theorem latched_capTime (i : Instr) (r : Regs p) (io : Inputs p) :
    (latched i r io).capTime = if captureNow r then r.now else r.capTime := by cases i <;> simp [latched]
@[simp] theorem latched_reading (i : Instr) (r : Regs p) (io : Inputs p) :
    (latched i r io).reading = (r.pending || (r.reading && !releaseOver r)) := by cases i <;> simp [latched]
@[simp] theorem latched_relStamp (i : Instr) (r : Regs p) (io : Inputs p) :
    (latched i r io).relStamp = if r.pending then r.now else r.relStamp := by cases i <;> simp [latched]
@[simp] theorem latched_sync1 (i : Instr) (r : Regs p) (io : Inputs p) :
    (latched i r io).sync1 = io.linkIn := by cases i <;> simp [latched]
@[simp] theorem latched_sync2 (i : Instr) (r : Regs p) (io : Inputs p) :
    (latched i r io).sync2 = r.sync1 := by cases i <;> simp [latched]
@[simp] theorem latched_trigPrev (i : Instr) (r : Regs p) (io : Inputs p) :
    (latched i r io).trigPrev = triggerBit r.sync2 := by cases i <;> simp [latched]
@[simp] theorem latched_supD (i : Instr) (r : Regs p) (io : Inputs p) :
    (latched i r io).supD = r.supD.extractLsb' 0 1 ++ BitVec.ofBool r.sup := by cases i <;> simp [latched]
@[simp] theorem latched_rspValid (i : Instr) (r : Regs p) (io : Inputs p) :
    (latched i r io).rspValid = i.isQuery := by cases i <;> simp [latched, Instr.isQuery]
theorem latched_triggered (i : Instr) (r : Regs p) (io : Inputs p) :
    (latched i r io).triggered = (captureNow r || (r.triggered && decide (i ≠ .istrig))) := by
  cases i <;> cases h : captureNow r <;> simp [latched, h]

/-! ### `exec`, `step` and runs -/

/-- Every arm of `exec` in one equation. -/
theorem exec_eq_latched (i : Instr) (s : State) : exec i s = .next (s.advance (latched i s.regs s.pins)) := by
  cases i <;> rfl

theorem step_of_illegal {s : State} (h : s.cfg.legal = false) : step s = .refused .illegalParameters := by
  simp [step, h]

theorem step_of_reset {s : State} (h : s.cfg.legal = true) (hr : s.pins.rstN = false) :
    step s = .next (s.advance (Regs.reset s.cfg)) := by
  simp [step, h, hr, resetCycle]

theorem step_of_running {s : State} (h : s.cfg.legal = true) (hr : s.pins.rstN = true) :
    step s = .next (s.advance (latched (decode s.cfg s.pins.commandWord) s.regs s.pins)) := by
  simp [step, h, hr, exec_eq_latched]

/-- Everything a step that answers a next state can do. -/
theorem step_next_cases {s t : State} (h : step s = .next t) :
    s.cfg.legal = true ∧
    ((s.pins.rstN = false ∧ t = s.advance (Regs.reset s.cfg)) ∨
     (s.pins.rstN = true ∧ t = s.advance (latched (decode s.cfg s.pins.commandWord) s.regs s.pins))) := by
  cases hl : s.cfg.legal with
  | false => rw [step_of_illegal hl] at h; cases h
  | true =>
    refine ⟨rfl, ?_⟩
    cases hr : s.pins.rstN with
    | false => rw [step_of_reset hl hr] at h; cases h; exact .inl ⟨rfl, rfl⟩
    | true => rw [step_of_running hl hr] at h; cases h; exact .inr ⟨rfl, rfl⟩

theorem nextPins_cons {s : State} {io : Inputs s.cfg} {ios : List (Inputs s.cfg)} (h : s.sched = io :: ios) :
    s.nextPins = io := by
  simp [State.nextPins, h]

/-- A run of no cycle. -/
theorem run_zero (s : State) : Host.Core.run core 0 s = .next s := rfl

/-- The first cycle of a run. -/
theorem run_of_step {s t : State} (k : Nat) (h : step s = .next t) :
    Host.Core.run core (k + 1) s = Host.Core.run core k t := by
  have hc : core.step s = .next t := h
  simp only [Host.Core.run, hc]

/-- A run of `k + 1` cycles is a run of `k` and one step more. -/
theorem run_succ {s t : State} {k : Nat} (h : Host.Core.run core k s = .next t) :
    Host.Core.run core (k + 1) s = step t := by
  induction k generalizing s with
  | zero =>
    obtain rfl : s = t := Host.Outcome.next.inj h
    change (Host.Core.run core (0 + 1) s) = core.step s
    cases hs : core.step s <;> simp only [Host.Core.run, hs]
  | succ k ih =>
    cases hs : core.step s with
    | next s' =>
      simp only [Host.Core.run, hs] at h
      rw [run_of_step _ hs]
      exact ih h
    | fault r => simp only [Host.Core.run, hs] at h; cases h
    | refused r => simp only [Host.Core.run, hs] at h; cases h

end Sys2Proof.Machine
end

