-- ==== Sys2Proof/Laws/Timers.lean ====
section
/-! SUPPORT. Elapsed times across one tick of the time base (00_scope.md R11), and what 00_scope.md R7 says of the parameters. -/

namespace Sys2Proof.Machine

variable {p : Params}

theorem toNat_tick {w : Nat} (b : Bool) : ((BitVec.ofBool b).setWidth w).toNat = b.toNat % 2 ^ w := by
  cases b <;> simp

/-- A timer that was just reset reads 0 or 1 in the next cycle (00_scope.md R11). -/
theorem elapsed_of_reset_timer {w : Nat} (now : BitVec w) (b : Bool) :
    (now + (BitVec.ofBool b).setWidth w - now).toNat = b.toNat % 2 ^ w := by
  rw [BitVec.add_comm, BitVec.add_sub_cancel, toNat_tick]

/-- A running timer counts the tick, as long as it does not wrap. -/
theorem elapsed_counts_tick {w : Nat} (now stamp : BitVec w) (b : Bool)
    (h : (now - stamp).toNat + b.toNat < 2 ^ w) :
    (now + (BitVec.ofBool b).setWidth w - stamp).toNat = (now - stamp).toNat + b.toNat := by
  have hb : b.toNat % 2 ^ w = b.toNat := Nat.mod_eq_of_lt (by omega)
  have : now + (BitVec.ofBool b).setWidth w - stamp = (now - stamp) + (BitVec.ofBool b).setWidth w := by
    rw [BitVec.sub_eq_add_neg, BitVec.sub_eq_add_neg, BitVec.add_assoc, BitVec.add_comm _ (-stamp), ← BitVec.add_assoc]
  rw [this, BitVec.toNat_add, toNat_tick, hb, Nat.mod_eq_of_lt h]

/-- 00_scope.md R7 in arithmetic. -/
theorem legal_iff (p : Params) :
    p.legal = true ↔
      ((8 ≤ p.wT ∧ p.wT ≤ 64 ∧ 1 ≤ p.wDur ∧ p.wDur < p.wT) ∧
       (p.tOn ≤ 2 ^ p.wT - 2 ∧ p.tOff ≤ 2 ^ p.wT - 2 ∧ p.tRel ≤ 2 ^ p.wT - 2)) ∧
      2 ^ p.wDur - 1 + p.tOn + p.tOff + 2 < 2 ^ p.wT := by
  simp [Params.legal, Params.widthsLegal, Params.timesLegal, Params.wrapLegal, and_assoc]

end Sys2Proof.Machine
end

