-- ==== Sys2Proof/Laws/PerInstr.lean ====
section
/-! SUPPORT. The family OpcodeField: the low three bits of a command's word are its opcode (30_encoding.md R56, R57), one
lemma per constructor. And what the decoder does with a number wider than the format. -/

namespace Sys2Proof

theorem opField_packWord (p : Params) (dur : BitVec p.wDur) (note : BitVec 8) (op : BitVec 3) :
    opField p (packWord p dur note op) = op := by
  simp [opField, packWord, BitVec.extractLsb'_append_eq_of_add_le]

theorem decodeWord_rejects_iff (p : Params) (w : Nat) :
    decodeWord p w = .error .wordTooWide ↔ 2 ^ (p.wDur + 8 + 3) ≤ w := by
  unfold decodeWord
  split <;> simp <;> omega

namespace Laws.OpcodeField

/-- At every parameter set, the `op` field of the command's word is its opcode. -/
def Statement (i : Instr) : Prop := ∀ p : Params, opField p (encode p i) = i.opcode

theorem nop : Statement .nop := fun p => opField_packWord p _ _ _
theorem write (note : BitVec 8) (dur : Nat) : Statement (.write note dur) := fun p => opField_packWord p _ _ _
theorem read : Statement .read := fun p => opField_packWord p _ _ _
theorem isplay : Statement .isplay := fun p => opField_packWord p _ _ _
theorem isread : Statement .isread := fun p => opField_packWord p _ _ _
theorem istrig : Statement .istrig := fun p => opField_packWord p _ _ _
theorem rsvd6 : Statement .rsvd6 := fun p => opField_packWord p _ _ _
theorem rsvd7 : Statement .rsvd7 := fun p => opField_packWord p _ _ _

end Laws.OpcodeField

end Sys2Proof
end

