-- ==== Sys2Proof/Tests/Slice0.lean ====
section
/-! SUPPORT. The model's own tests, expected values from spec/95_test_vectors.md and spec/30_encoding.md R66, and for every
obligation with hypotheses a witness: a concrete state and operands that meet all of them together. -/

namespace Sys2Proof.Tests

open Sys2Proof.Machine

/-! ### Helpers: the defaults of 00_scope.md R7, one cycle's inputs, a state, the outcome of one step -/

abbrev D : Params := Params.defaults

/-- The reset registers, of which a test changes those that matter (95_test_vectors.md, Notation). -/
abbrev z : Regs D := Regs.reset D

/-- Inputs with command `i` on the port, `tick_i` = 1 unless told otherwise. -/
def ins (i : Instr) (link : Lines := 0#7) (tick : Bool := true) : Inputs D :=
  { Inputs.idle D with tick := tick, linkIn := link }.withCommandWord (encode D i).toNat

/-- The same with `rst_n` = 0. -/
def insReset : Inputs D := { ins .nop with rstN := false }

/-- A state with registers `r`, command `i` and a schedule. -/
def st (r : Regs D) (i : Instr) (sched : List (Inputs D) := []) (link : Lines := 0#7) (tick : Bool := true) : State :=
  ⟨D, r, ins i link tick, sched, 0⟩

/-- The step answers a next state, and `q` holds of it. -/
def nextSat (s : State) (q : State → Bool) : Bool :=
  match step s with
  | .next t => q t
  | .fault _ => false
  | .refused _ => false

/-- The next state, where the step answers one. -/
def stepped (s : State) : State :=
  match step s with
  | .next t => t
  | .fault _ => s
  | .refused _ => s

/-! ### Well-formedness -/

theorem test_wf_defaults_legal : D.legal = true := by decide
theorem test_wf_dur_too_wide : Instr.wf D (.write 0#8 65536) = false := by decide
theorem test_wf_dur_widest : Instr.wf D (.write 255#8 65535) = true := by decide
theorem test_wf_wT_too_small : Params.widthsLegal { D with wT := 7, wDur := 1 } = false := by decide
theorem test_wf_wT_too_large : Params.widthsLegal { D with wT := 65 } = false := by decide
theorem test_wf_wDur_zero : Params.widthsLegal { D with wDur := 0 } = false := by decide
theorem test_wf_wDur_not_below_wT : Params.widthsLegal { D with wDur := 32 } = false := by decide
theorem test_wf_tOn_too_large : Params.timesLegal { D with tOn := 2 ^ 32 - 1 } = false := by decide
theorem test_wf_tOff_too_large : Params.timesLegal { D with tOff := 2 ^ 32 - 1 } = false := by decide
theorem test_wf_tRel_too_large : Params.timesLegal { D with tRel := 2 ^ 32 - 1 } = false := by decide
theorem test_wf_tRel_largest : Params.legal { D with tRel := 2 ^ 32 - 2 } = true := by decide
/-- 255 + 0 + 255 + 2 reaches 2^9; one unit less of `T_OFF` is legal. -/
theorem test_wf_wrap :
    Params.wrapLegal { D with wT := 9, wDur := 8, tOn := 0, tOff := 255 } = false ∧
    Params.legal { D with wT := 9, wDur := 8, tOn := 0, tOff := 254 } = true := by decide

/-! ### Decoding, words written out from 30_encoding.md R57, R66, R67 -/

theorem test_decode_nop : decodeWord D 0b0000000000000000_00000000_000 = .ok .nop := by decide
/-- `{16'd40, 8'd10, 3'b001}` (R57). -/
theorem test_decode_write : decodeWord D 0b0000000000101000_00001010_001 = .ok (.write 10 40) := by decide
theorem test_decode_write_listed :
    decodeWord D 0x0014191 = .ok (.write 50 40) ∧ decodeWord D 0x0000981 = .ok (.write 48 1) ∧
    decodeWord D 0x00029F9 = .ok (.write 63 5) ∧ decodeWord D 0x0014189 = .ok (Instr.rest 40) ∧
    decodeWord D 0x000F231 = .ok (.write 70 30) := by decide
theorem test_decode_read : decodeWord D 0b0000000000000000_00000000_010 = .ok .read := by decide
theorem test_decode_isplay : decodeWord D 0b0000000000000000_00000000_011 = .ok .isplay := by decide
theorem test_decode_isread : decodeWord D 0b0000000000000000_00000000_100 = .ok .isread := by decide
theorem test_decode_istrig : decodeWord D 0b0000000000000000_00000000_101 = .ok .istrig := by decide
/-- Operand fields of the reserved opcodes are ignored (R60). -/
theorem test_decode_reserved :
    decodeWord D 0b1111111111111111_11111111_110 = .ok .rsvd6 ∧
    decodeWord D 0b0000000000000001_00000001_111 = .ok .rsvd7 := by decide
theorem test_decode_too_wide : decodeWord D (2 ^ 27) = .error .wordTooWide := by decide
theorem test_decode_table_word :
    decodeTableWord 8 0x01 = some (.write 0 0) ∧ decodeTableWord 32 0x7FFFFF9 = some (.write 255 65535) ∧
    decodeTableWord 32 0x8000000 = none := by decide
theorem test_encode_listed :
    encode D (.write 10 40) = 0x0014051 ∧ encode D (.write 255 65535) = 0x7FFFFF9 ∧ encode D .istrig = 0x5 := by decide
theorem test_asm : (Instr.write 10 40).asm = "WRITE 10, 40" ∧ Instr.isread.asm = "ISREAD" ∧
    Instr.wait 2 = [.nop, .nop] := by decide

/-! ### The link frame (95_test_vectors.md E1, E2) and the state codes (10_state.md R17) -/

theorem test_encodeNote : encodeNote 10 = 0x2A ∧ encodeNote 0 = 0x20 ∧ encodeNote 32 = 0x60 ∧ encodeNote 63 = 0x7F := by
  decide
theorem test_decodeNote :
    decodeNote 0x65 = 37 ∧ decodeNote 0x0A = 10 ∧ decodeNote 0x40 = 32 ∧ decodeNote 0x5F = 63 := by decide
theorem test_wstate_codes :
    [WState.done, .pulseOn, .pulseOff, .restWait].map WState.code = [0b00#2, 0b01#2, 0b10#2, 0b11#2] := by decide

/-! ### One step per vector of 95_test_vectors.md -/

/-- 43_write_path.md R108 (44_host_commands.md R126, example): a NOP cycle with elapsed 3 ends the pulse; E9e. -/
theorem test_nop_runs_the_every_cycle_rules :
    nextSat (st { z with wstate := .pulseOn, sup := true, out := 0x2A, pulseStamp := 500, now := 503, rsp := 5,
                         rspValid := true } .nop)
      (fun t => t.regs.wstate == .pulseOff && t.regs.sup == false && t.regs.out == 0 && t.regs.pulseStamp.toNat == 503 &&
        t.regs.rsp == 5 && t.regs.rspValid == false && t.regs.now.toNat == 504) = true := by decide

/-- E7a, and E7b: the same edge while driving is lost. -/
theorem test_nop_capture_and_lost_edge :
    nextSat (st { z with sync2 := 0x65, trigPrev := false, now := 100 } .nop)
      (fun t => t.regs.capNote == 37 && t.regs.capTime.toNat == 100 && t.regs.pending && t.regs.triggered) = true ∧
    nextSat (st { z with sync2 := 0x65, trigPrev := false, now := 100, sup := true } .nop)
      (fun t => t.regs.capNote == 0 && t.regs.capTime.toNat == 0 && !t.regs.pending && !t.regs.triggered) = true := by
  decide

/-- 44_host_commands.md R127, example. -/
theorem test_write_note :
    nextSat (st { z with now := 500 } (.write 10 40))
      (fun t => t.regs.wstate == .pulseOn && t.regs.wNote == 10 && t.regs.wDur.toNat == 40 &&
        t.regs.noteStamp.toNat == 500 && t.regs.pulseStamp.toNat == 500 && t.outputs.linkOe && t.outputs.linkOut == 0x2A &&
        t.outputs.note == 10 && t.outputs.playing) = true := by decide

/-- E3, row `WRITE 70, 30`, preempting E4a's pulse: a rest, masked, which releases the lines and keeps `CURNOTE`. -/
theorem test_write_rest_preempts :
    nextSat (st { z with wstate := .pulseOn, sup := true, out := 0x2A, wNote := 10, wDur := 40, noteStamp := 500,
                         pulseStamp := 500, curNote := 10, now := 501 } (.write 70 30))
      (fun t => t.regs.wstate == .restWait && t.regs.wNote == 6 && t.regs.sup == false && t.regs.out == 0 &&
        t.regs.noteStamp.toNat == 501 && t.regs.pulseStamp.toNat == 501 && t.regs.curNote == 10) = true := by decide

/-- E4e: a READ in the cycle of a sync answers the earlier note. -/
theorem test_read_in_a_sync_cycle :
    nextSat (st { z with pending := true, capNote := 7, curNote := 1, now := 200 } .read)
      (fun t => t.regs.rsp == 0x01 && t.regs.rspValid && t.regs.curNote == 7 && !t.regs.pending && t.regs.reading &&
        t.regs.relStamp.toNat == 200) = true := by decide

/-- E9b and E9c. -/
theorem test_isplay :
    nextSat (st { z with wstate := .restWait, wDur := 9 } .isplay) (fun t => t.regs.rsp == 0x01 && t.regs.rspValid) = true ∧
    nextSat (st z .isplay) (fun t => t.regs.rsp == 0x00 && t.regs.rspValid) = true := by decide

/-- E9d with E8b, and E8c: the release in the cycle of the query. -/
theorem test_isread :
    nextSat (st { z with reading := true, relStamp := 101, now := 126 } .isread)
      (fun t => t.regs.rsp == 0x01 && t.regs.reading) = true ∧
    nextSat (st { z with reading := true, relStamp := 101, now := 127 } .isread)
      (fun t => t.regs.rsp == 0x01 && !t.regs.reading) = true := by decide

/-- E7g and E7h: the capture's set wins over the clear. -/
theorem test_istrig_set_wins :
    nextSat (st { z with sync2 := 0x65, trigPrev := false, triggered := true } .istrig)
      (fun t => t.regs.rsp == 0x01 && t.regs.triggered) = true ∧
    nextSat (st { z with sync2 := 0x65, trigPrev := false } .istrig)
      (fun t => t.regs.rsp == 0x00 && t.regs.triggered) = true := by decide

/-- E7i. -/
theorem test_istrig_consumes :
    nextSat (st { z with triggered := true } .istrig)
      (fun t => t.regs.rsp == 0x01 && t.regs.rspValid && !t.regs.triggered) = true := by decide

/-- E9f and E9g: as NOP, with any operands on the port. -/
theorem test_reserved :
    nextSat { st { z with rsp := 5, rspValid := true } .rsvd6 with pins := { ins .rsvd6 with note := 9, dur := 3 } }
      (fun t => t.regs.rsp == 5 && !t.regs.rspValid && t.regs.wstate == .done && t.regs.wNote == 0) = true ∧
    nextSat (st { z with rsp := 5, rspValid := true } .rsvd7)
      (fun t => t.regs.rsp == 5 && !t.regs.rspValid && t.regs.wstate == .done) = true := by decide

/-- E5d and E5e: the repeat is due, or the note is over. -/
theorem test_repeat_or_finish :
    nextSat (st { z with wstate := .pulseOff, pulseStamp := 503, noteStamp := 481, wDur := 40, wNote := 10, now := 520 } .nop)
      (fun t => t.regs.wstate == .pulseOn && t.regs.sup && t.regs.out == 0x2A && t.regs.pulseStamp.toNat == 520 &&
        t.regs.curNote == 10) = true ∧
    nextSat (st { z with wstate := .pulseOff, pulseStamp := 503, noteStamp := 480, wDur := 40, wNote := 10, now := 520 } .nop)
      (fun t => t.regs.wstate == .done) = true := by decide

/-- E6b: the elapsed time is taken modulo 2^`W_T`. -/
theorem test_timer_wrap :
    nextSat (st { z with wstate := .pulseOn, sup := true, pulseStamp := 0xFFFFFFFD, now := 0 } .nop)
      (fun t => t.regs.wstate == .pulseOff && t.regs.pulseStamp.toNat == 0 && t.regs.now.toNat == 1) = true := by decide

/-- E10a: reset at an edge, and reset held in the next cycle. -/
theorem test_reset :
    nextSat { st { z with curNote := 9, now := 7 } (.write 1 1) with pins := { ins (.write 1 1) with rstN := false } }
      (fun t => t.regs.curNote == 0 && t.regs.now.toNat == 0 && t.regs.wstate == .done) = true ∧
    nextSat (st { z with curNote := 9 } (.write 1 1) [insReset])
      (fun t => t.regs.curNote == 0 && t.regs.wstate == .done && t.regs.trigPrev) = true := by decide

/-- The parameters of State.reset are 00_scope.md R7's defaults (log entry 4). -/
theorem test_reset_parameters : State.reset.cfg = ⟨32, 16, 2, 16, 25⟩ := by decide

/-- 93_implementation_defined.md U2. -/
theorem test_illegal_parameters_refused :
    (match step ⟨{ D with tOn := 2 ^ 32 }, Regs.reset _, Inputs.idle _, [], 0⟩ with
      | .refused r => r == .illegalParameters | .next _ => false | .fault _ => false) = true := by decide

/-- E10d through `withFetchWord`: the very next step runs the word, from the reset state. -/
theorem test_withFetchWord :
    nextSat (State.reset.withFetchWord 32 0x0014051)
      (fun t => t.regs.wstate == .pulseOn && t.regs.wNote == 10 && t.regs.wDur.toNat == 40) = true := by decide

/-! ### Witnesses: concrete states and operands that meet the hypotheses of each obligation -/

theorem witness_DecodeOfEncodeIsTheCommand : Instr.wf D (.write 255 65535) = true := by decide
/-- For `EncodeOfDecodedWriteIsTheWord` and the second part of `ExactlyOneOpcodeRowSelectsEveryWord`. -/
theorem witness_decoded_write : decode D 0x7FFFFF9 = .write 255 65535 ∧ decode D 0x0000001 = .write 0 0 := by decide
theorem witness_opcodeRows : (⟨"RSVD7", 0x7, 0x7⟩ : OpcodeRow) ∈ opcodeRows := by decide
theorem witness_OperandsOfOtherCommandsAreIgnored : (st z .rsvd7).pins.cmd ≠ 0b001#3 := by decide
theorem witness_NoteEncoderAndDecoderAreInverse : triggerBit 0b0100000#7 = true ∧ triggerBit 0b1111111#7 = true := by decide
/-- For `StepExecutesThePresentedCommand`, `StepRefinesThePseudocode` and the legal case of `StepIsTotalOnLegalParameters`. -/
theorem witness_running : (st z (.write 10 40)).cfg.legal = true ∧ (st z (.write 10 40)).pins.rstN = true := by decide
theorem witness_illegal_parameters : (⟨{ D with wT := 7 }, Regs.reset _, Inputs.idle _, [], 0⟩ : State).cfg.legal = false := by
  decide
/-- A schedule with a reset cycle, and one without. -/
theorem witness_ClockEdgeMovesTheEnvironment :
    (st z .nop [insReset, ins .read]).sched = insReset :: [ins .read] ∧
    ((st z .nop [insReset]).advance z).pins.rstN = false ∧ ((st z .nop [ins .read]).advance z).pins.rstN = true :=
  ⟨rfl, by decide, by decide⟩

/-- For `ResetOverridesEveryState`, `ResetValuesOfEveryRegister` and `OutputsAreZeroDuringReset`. -/
theorem witness_reset_cycles :
    (let s : State := { st { z with now := 9 } .nop with pins := insReset }
     s.cfg.legal = true ∧ s.pins.rstN = false) ∧
    (let s := st { z with now := 9 } (.write 3 3) [insReset]
     step s = .next (stepped s) ∧ (stepped s).pins.rstN = false) := ⟨by decide, rfl, by decide⟩

/-- The condition of the capture met (95_test_vectors.md E7a), and failed by each of its five parts. -/
theorem witness_CaptureFillsTheMailbox :
    let c (r : Regs D) : Bool := decide (r.sync2.getLsbD 5 = true ∧ r.trigPrev = false ∧ r.sup = false ∧ r.supD = 0#2 ∧
      r.pending = false)
    let r : Regs D := { z with sync2 := 0x65, trigPrev := false }
    c r = true ∧ c { r with sync2 := 0x45 } = false ∧ c { r with trigPrev := true } = false ∧
    c { r with sup := true } = false ∧ c { r with supD := 0b10 } = false ∧ c { r with pending := true } = false ∧
    Instr.nop ≠ Instr.istrig := by decide

/-- The edge under each part of the guard, and over an unconsumed capture (95_test_vectors.md E7b to E7d). -/
theorem witness_LostEdgeChangesNothing :
    let r : Regs D := { z with sync2 := 0x65, trigPrev := false }
    (triggerEdge { r with sup := true } = true) ∧
    (triggerEdge { r with supD := 0b01 } = true ∧ (0b01#2).getLsbD 0 = true) ∧
    (triggerEdge { r with supD := 0b10 } = true ∧ (0b10#2).getLsbD 1 = true) ∧
    (triggerEdge { r with pending := true } = true) := by decide

/-- For `SyncDeliversTheCapture` and `CurrentNotePriority`: a sync with an entry to `PULSE_ON` by WRITE (95_test_vectors.md
E4d), with one by the repeat, and without one (a rest, a NOP). -/
theorem witness_SyncDeliversTheCapture :
    let r : Regs D := { z with pending := true, capNote := 7 }
    let q : Regs D := { r with wstate := .pulseOff, pulseStamp := 503, noteStamp := 481, wDur := 40, wNote := 10, now := 520 }
    r.pending = true ∧ PulseOnEntry r (.write 48 5) 48 ∧ PulseOnEntry q .nop 10 ∧
    (∀ n, ¬PulseOnEntry r (.write 49 5) n) ∧ (∀ n, ¬PulseOnEntry r .nop n) := by
  refine ⟨rfl, ⟨by decide, by decide⟩, ⟨⟨rfl, by decide, by decide⟩, rfl⟩, fun n h => ?_, fun n h => ?_⟩
  · exact absurd h.1 (by decide)
  · cases h.1.1

theorem witness_ReleaseClearsReadingAfterHysteresis :
    let r : Regs D := { z with reading := true, relStamp := 101 }
    r.pending = false ∧ ((126#32 : BitVec 32) - 101#32).toNat = D.tRel ∧ ((127#32 : BitVec 32) - 101#32).toNat = D.tRel + 1 := by
  decide

/-- 48 is a note and 49 a rest (30_encoding.md R58). -/
theorem witness_WriteStartsNoteOrRest :
    (65535 < 2 ^ (st z .nop).cfg.wDur) ∧ (48#8).toNat ≤ 48 ∧ 48 < (49#8).toNat ∧ 48 < (255#8).toNat := by decide

theorem witness_WriteStartsFresh :
    ({ z with now := 3, wstate := .pulseOn, sup := true, wDur := 9 } : Regs D).now = ({ z with now := 3 } : Regs D).now := by
  decide

theorem witness_NopInAnIdleBlockChangesNoOtherRegister :
    let s := st z .nop [] 0x20 false
    s.regs.wstate = .done ∧ s.regs.pending = false ∧ captureNow s.regs = false ∧ s.regs.reading = false ∧
      s.pins.tick = false := by decide

/-- For `ResponseProtocol`: a query and a non-query. -/
theorem witness_ResponseProtocol :
    nextSat (st z .read) (fun t => t.regs.rspValid) = true ∧ nextSat (st z .rsvd6) (fun t => !t.regs.rspValid) = true := by
  decide

/-- 95_test_vectors.md E5a and E5b: the last cycle of the on-time and the first after it. -/
theorem witness_PulseOnEndsAfterTheOnTime :
    let r (now : BitVec 32) : Regs D := { z with wstate := .pulseOn, sup := true, pulseStamp := 500#32, now := now }
    Instr.isWrite .istrig = false ∧ (r 502).wstate = .pulseOn ∧
    ((r 502).now - (r 502).pulseStamp).toNat ≤ D.tOn ∧ D.tOn < ((r 503).now - (r 503).pulseStamp).toNat := by decide

/-- 95_test_vectors.md E5c, E5d and E5e. -/
theorem witness_PulseOffRepeatsOrFinishes :
    let r (now note : BitVec 32) : Regs D :=
      { z with wstate := .pulseOff, pulseStamp := 503#32, noteStamp := note, wDur := 40#16, now := now }
    (r 519 481).wstate = .pulseOff ∧ ((r 519 481).now - (r 519 481).pulseStamp).toNat ≤ D.tOff ∧
    D.tOff < ((r 520 481).now - (r 520 481).pulseStamp).toNat ∧
    ((r 520 481).now - (r 520 481).noteStamp).toNat < (r 520 481).wDur.toNat ∧
    (r 520 480).wDur.toNat ≤ ((r 520 480).now - (r 520 480).noteStamp).toNat := by decide

/-- 95_test_vectors.md E5f, E5g and E5i. -/
theorem witness_RestEndsAtItsDurationAndDoneStays :
    let r (now : BitVec 32) : Regs D := { z with wstate := .restWait, noteStamp := 500#32, wDur := 40#16, now := now }
    (r 539).wstate = .restWait ∧ ¬ (r 539).wDur.toNat ≤ ((r 539).now - (r 539).noteStamp).toNat ∧
    (r 540).wDur.toNat ≤ ((r 540).now - (r 540).noteStamp).toNat ∧ z.wstate = .done := by decide

/-- A state in a pulse, which the next cycle's WRITE preempts. -/
abbrev pulsing : Regs D :=
  { z with wstate := .pulseOn, sup := true, out := 0x2A, wNote := 10, wDur := 40, noteStamp := 500, pulseStamp := 500,
           curNote := 10, now := 503 }

/-- For `StepKeepsTheBusInvariant` and `NoteWriteDuringAPulseMakesNoEdge`. -/
theorem witness_BusInv :
    pulsing.BusInv ∧ z.BusInv ∧ pulsing.wstate = .pulseOn ∧
    step (st pulsing (.write 48 9)) = .next (stepped (st pulsing (.write 48 9))) ∧
    (48#8).toNat ≤ 48 :=
  ⟨⟨by decide, by decide, by decide⟩, ⟨by decide, by decide, by decide⟩, rfl, rfl, by decide⟩

theorem witness_EdgeNeverMeetsAnUnconsumedCapture :
    let r : Regs D := { z with sync2 := 0x65, trigPrev := false }
    let q : Regs D := { z with sync2 := 0x65, trigPrev := true, pending := true, triggered := true }
    (r.MailboxInv ∧ triggerEdge r = true) ∧ q.MailboxInv ∧ step (st r .nop) = .next (stepped (st r .nop)) :=
  ⟨⟨⟨by decide, by decide⟩, by decide⟩, ⟨by decide, by decide⟩, rfl⟩

theorem witness_StepKeepsRequestAndResponseInRange :
    (pulsing.RequestInv ∧ pulsing.ResponseInv) ∧ step (st pulsing .isplay) = .next (stepped (st pulsing .isplay)) := by
  refine ⟨⟨?_, ?_⟩, rfl⟩
  · unfold Regs.RequestInv; decide
  · unfold Regs.ResponseInv; decide

/-- Each timed state at the bound of its timers, and a step from it. -/
theorem witness_StepKeepsTimersBelowTheWrap :
    (pulsing.TimerInv) ∧
    (({ z with wstate := .pulseOff, pulseStamp := 503, noteStamp := 500, wDur := 40, now := 520 } : Regs D).TimerInv) ∧
    (({ z with wstate := .restWait, noteStamp := 500, wDur := 40, now := 540 } : Regs D).TimerInv) ∧
    (({ z with reading := true, relStamp := 0, now := 26 } : Regs D).TimerInv) ∧
    step (st pulsing .nop) = .next (stepped (st pulsing .nop)) ∧ D.legal = true :=
  ⟨⟨by decide, by decide, by decide, by decide, by decide, by decide⟩,
   ⟨by decide, by decide, by decide, by decide, by decide, by decide⟩,
   ⟨by decide, by decide, by decide, by decide, by decide, by decide⟩,
   ⟨by decide, by decide, by decide, by decide, by decide, by decide⟩, rfl, by decide⟩

/-- A looped-back trigger in the synchroniser, in the cycle after the pulse, with the trigger now low; and one still driven. -/
theorem witness_OwnPulseIsNeverCaptured :
    let r : Regs D := { z with wstate := .pulseOff, sync1 := 0x20, sync2 := 0x20, trigPrev := false, supD := 0b11 }
    let d : Regs D := { pulsing with sync1 := 0x00, sync2 := 0x00, trigPrev := false }
    r.LoopbackInv ∧ (triggerBit (st r .nop).pins.linkIn = true → r.sup = true) ∧
    step (st r .nop) = .next (stepped (st r .nop)) ∧
    d.LoopbackInv ∧ triggerBit (st d .nop [] 0x2A).pins.linkIn = true ∧ d.sup = true :=
  ⟨⟨by decide, by decide⟩, by decide, rfl, ⟨by decide, by decide⟩, by decide, rfl⟩

theorem witness_ReceivingHasNoEffectOnTheWritePath :
    let r' : Regs D :=
      { pulsing with pending := true, capNote := 3, reading := true, sync2 := 0x65, triggered := true, curNote := 5 }
    Regs.AgreeOnWritePath pulsing r' ∧ (ins .nop 0x7F).tick = (ins .read 0x00).tick :=
  ⟨⟨rfl, rfl, rfl, rfl, rfl, rfl, rfl, rfl⟩, by decide⟩

/-- Different data in both synchroniser stages and on the lines, all of it sampled while driving; and a cycle that does not
drive. -/
theorem witness_DataSampledWhileDrivingIsNeverUsed :
    let r : Regs D := { pulsing with supD := 0b11, sync1 := 0x2A, sync2 := 0x2A }
    let r' : Regs D := { pulsing with supD := 0b11, sync1 := 0x7F, sync2 := 0x20 }
    D.legal = true ∧ Regs.AgreeButDriven r r' ∧ Inputs.AgreeButDriven r.sup (ins .nop 0x2A) (ins .nop 0x3F) ∧
    Inputs.AgreeButDriven z.sup (ins .nop 0x0A) (ins .nop 0x0A) ∧ Regs.AgreeButDriven z z :=
  ⟨by decide, ⟨by decide, by decide, by decide, by decide, by decide⟩, ⟨by decide, by decide, by decide⟩,
   ⟨by decide, by decide, by decide⟩, ⟨by decide, by decide, by decide, by decide, by decide⟩⟩

/-- A rest of 2 units: `j` from the cycle after the WRITE to the first `DONE`; a rest of 0 units likewise. -/
theorem witness_RestLastsItsDuration :
    let q := [ins .nop, ins .read, ins .istrig, ins .nop]
    let s := st z (.write 49 2) q
    s.cfg.legal = true ∧ s.pins.rstN = true ∧ s.pins.cmd = 0b001#3 ∧ 48 < s.pins.note.toNat ∧ 3 < s.sched.length ∧
    Undisturbed (s.sched.take 4) ∧
    tickCount (s.inputs.take 1) < s.pins.dur.toNat ∧ ¬ tickCount (s.inputs.take 2) < s.pins.dur.toNat ∧
    (st z (.write 255 0) q).pins.dur.toNat = 0 :=
  ⟨by decide, by decide, by decide, by decide, by decide, by unfold Undisturbed; decide, by decide, by decide, by decide⟩

/-- `WRITE 48, 21` (two pulses, 95_test_vectors.md W4) with a tick in every cycle, and the phases' boundaries of it. -/
theorem witness_NoteWaveformInTickUnits :
    let s := st z (.write 48 21) (List.replicate 42 (ins .nop))
    s.cfg.legal = true ∧ s.pins.rstN = true ∧ s.pins.cmd = 0b001#3 ∧ s.pins.note.toNat ≤ 48 ∧ 41 < s.sched.length ∧
    Undisturbed (s.sched.take 42) ∧
    [0, 2, 3, 19, 20, 22, 23, 39, 40].map (noteWaveform D 21) =
      [.pulseOn, .pulseOn, .pulseOff, .pulseOff, .pulseOn, .pulseOn, .pulseOff, .pulseOff, .done] ∧
    [19, 20].map (noteWaveform D 0) = [.pulseOff, .done] :=
  ⟨by decide, by decide, by decide, by decide, by decide, by unfold Undisturbed; decide, by decide, by decide⟩

/-- With `T_REL` = 1 and a tick in every cycle, so that the hysteresis is over within the schedule. -/
theorem witness_ReadingLastsTheHysteresis :
    let p : Params := { D with tRel := 1 }
    let s : State := ⟨p, { Regs.reset p with pending := true, capNote := 3 }, { Inputs.idle p with tick := true },
      List.replicate 3 { Inputs.idle p with tick := true }, 0⟩
    s.cfg.legal = true ∧ s.pins.rstN = true ∧ s.regs.pending = true ∧ 2 < s.sched.length ∧ NoReset (s.sched.take 3) ∧
    (∀ k, 1 ≤ k → k ≤ 2 → ∀ t : State, Host.Core.run core k s = .next t → t.regs.pending = false) ∧
    tickCount (s.inputs.take 1) ≤ s.cfg.tRel ∧ ¬ tickCount (s.inputs.take 2) ≤ s.cfg.tRel := by
  refine ⟨by decide, by decide, rfl, by decide, by unfold NoReset; decide, fun k h1 h2 t h => ?_, by decide, by decide⟩
  obtain rfl | rfl : k = 1 ∨ k = 2 := by omega
  · cases Host.Outcome.next.inj h; rfl
  · cases Host.Outcome.next.inj h; rfl

/-- Every timed state of the statement, short of its end, and a stretch without ticks. -/
theorem witness_WithoutTicksTheTimedStatesHold :
    let s := st { pulsing with now := 502, reading := true, relStamp := 500 } .nop
      [ins .read 0 false, ins .istrig 0 false] 0 false
    s.cfg.legal = true ∧ 2 ≤ s.sched.length ∧ Undisturbed (s.inputs.take 3) ∧ NoTick (s.inputs.take 3) ∧
    (s.regs.wstate = .pulseOn ∧ pulseOnOver s.regs = false) ∧ s.regs.reading = true ∧ releaseOver s.regs = false ∧
    (let r : Regs D := { z with wstate := .pulseOff, pulseStamp := 503, now := 519 }
     r.wstate = .pulseOff ∧ pulseOffOver r = false) ∧
    (let r : Regs D := { z with wstate := .restWait, noteStamp := 500, wDur := 40, now := 539 }
     r.wstate = .restWait ∧ durationReached r = false) ∧ z.wstate = .done :=
  ⟨by decide, by decide, by unfold Undisturbed; decide, by unfold NoTick; decide, by decide, rfl, by decide, by decide,
   by decide, rfl⟩

/-- For `ReceivedNoteLatency` and `EarliestCaptureIsInCycleFour`: E10c's inputs, in which the guard is 0 when the edge is
seen and no entry to `PULSE_ON` comes. -/
theorem witness_ReceivedNoteLatency :
    let q := [ins .nop 0x2A, ins .nop 0x2A, ins .nop 0x2A, ins .nop 0x2A, ins .nop 0x2A]
    let s := st z .nop q 0x00
    D.legal = true ∧ NoReset (s.pins :: q) ∧ Undisturbed (s.pins :: q) ∧ triggerBit s.pins.linkIn = false ∧
    triggerBit (ins .nop 0x2A).linkIn = true ∧
    (let t := stepped (stepped (stepped s))
     Host.Core.run core 3 s = .next t ∧ guardActive t.regs = false ∧
     (∀ n, ¬PulseOnEntry (stepped t).regs (decode D (ins .nop 0x2A).commandWord) n)) := by
  refine ⟨by decide, by unfold NoReset; decide, by unfold Undisturbed; decide, by decide, by decide, rfl, by decide,
    fun n h => ?_⟩
  cases h.1.1

theorem witness_NoCaptureInTheFirstThreeCycles :
    let s := st z .nop [ins .nop 0x20, ins .nop 0x20] 0x00
    s.regs = Regs.reset s.cfg ∧ Host.Core.run core 0 s = .next s ∧ Host.Core.run core 2 s = .next (stepped (stepped s)) :=
  ⟨rfl, rfl, rfl⟩

theorem witness_HighTriggerSinceResetNeverCaptures :
    let s := st z .nop [ins .nop 0x2A, insReset, ins .nop 0x7F] 0x20
    s.cfg.legal = true ∧ s.regs = Regs.reset s.cfg ∧ 2 ≤ s.sched.length ∧
    ∀ io ∈ s.inputs.take 2, triggerBit io.linkIn = true := by
  refine ⟨by decide, rfl, by decide, by decide⟩

theorem witness_TriggerIsConsumedOnce :
    let s := st { z with triggered := true } .istrig [ins .nop, ins .istrig]
    s.cfg.legal = true ∧ s.pins.rstN = true ∧ s.pins.cmd = 0b101#3 ∧ 1 < s.sched.length ∧ NoReset (s.sched.take 2) ∧
    (∀ j ≤ 1, ∀ t : State, Host.Core.run core j s = .next t → captureNow t.regs = false) := by
  refine ⟨by decide, by decide, by decide, by decide, by unfold NoReset; decide, fun j hj t h => ?_⟩
  obtain rfl | rfl : j = 0 ∨ j = 1 := by omega
  · cases Host.Outcome.next.inj h; rfl
  · cases Host.Outcome.next.inj h; rfl

theorem witness_CaptureInTheCycleOfAWriteIsDelivered :
    let r : Regs D := { z with sync2 := 0x65, trigPrev := false }
    D.legal = true ∧ NoReset [ins (.write 48 9), ins .nop, ins .nop] ∧ (ins (.write 48 9)).cmd = 0b001#3 ∧
    (ins (.write 48 9)).note.toNat ≤ 48 ∧ (ins .nop).cmd ≠ 0b001#3 ∧ captureNow r = true :=
  ⟨by decide, by unfold NoReset; decide, by decide, by decide, by decide, by decide⟩

end Sys2Proof.Tests
end

section
/-! PROOFS. The statements from 10_state.md, and the facts about one cycle that the register invariants and the two-run
relation are proved from. -/

namespace Sys2Proof.Machine

variable {p : Params}

/-! ### One cycle -/

/-- The Write Path's two ways through a cycle: a WRITE, or its own transition on what `everyCycle` gives, whatever the
command leaves in the trigger latch and the response register. -/
theorem latched_cases (i : Instr) (r : Regs p) (io : Inputs p) :
    (∃ note dur, i = .write note dur ∧ latched i r io = doWrite r (noResponse (everyCycle r io)) note dur) ∨
    (∃ trig v b, latched i r io =
      advanceWritePath r { everyCycle r io with triggered := trig, rsp := v, rspValid := b }) := by
  cases i with
  | write note dur => exact .inl ⟨note, dur, rfl, rfl⟩
  | nop | rsvd6 | rsvd7 | read | isplay | isread => exact .inr ⟨_, _, _, rfl⟩
  | istrig =>
    right
    rcases consumeTrigger_cases r (everyCycle r io) with ⟨-, h⟩ | ⟨-, h⟩
    all_goals exact ⟨_, _, _, by rw [latched, h]; rfl⟩

theorem latched_supD_zero (i : Instr) (r : Regs p) (io : Inputs p) :
    (latched i r io).supD.getLsbD 0 = r.sup := by
  rw [latched_supD, BitVec.getLsbD_append]
  simp

theorem latched_supD_one (i : Instr) (r : Regs p) (io : Inputs p) :
    (latched i r io).supD.getLsbD 1 = r.supD.getLsbD 0 := by
  rw [latched_supD, BitVec.getLsbD_append]
  simp

/-- In a cycle with `rst_n` = 0 that an edge leads to, the registers hold their reset values (10_state.md R37). -/
theorem advance_regs_of_reset {s : State} {r : Regs s.cfg} (h : (s.advance r).pins.rstN = false) :
    (s.advance r).regs = Regs.reset s.cfg := if_neg (by simpa using h)

/-- A predicate of the reset registers and of what the edge latches holds after the edge. -/
theorem advance_keeps {Q : ∀ {p : Params}, Regs p → Prop} (hreset : ∀ p, Q (Regs.reset p)) {s : State} {r : Regs s.cfg}
    (h : Q r) : Q (s.advance r).regs := by
  rw [State.advance_regs]
  split
  · exact h
  · exact hreset _

/-- A predicate that holds of the reset registers and that every command's cycle keeps is kept by every step. -/
theorem step_keeps_of_latched {Q : ∀ {p : Params}, Regs p → Prop} (hreset : ∀ p, Q (Regs.reset p))
    (hlatched : ∀ {p : Params} (i : Instr) (r : Regs p) (io : Inputs p), Q r → Q (latched i r io))
    {s t : State} (hs : Q s.regs) (hstep : step s = .next t) : Q t.regs := by
  obtain ⟨-, ⟨-, rfl⟩ | ⟨-, rfl⟩⟩ := step_next_cases hstep
  · exact advance_keeps hreset (hreset _)
  · exact advance_keeps hreset (hlatched _ _ _ hs)

/-! ### The reset registers -/

theorem reset_busInv (p : Params) : (Regs.reset p).BusInv where
  sup_iff := by simp [Regs.reset]
  driven := nofun
  released _ := rfl

theorem reset_mailboxInv (p : Params) : (Regs.reset p).MailboxInv where
  prev_high := nofun
  latched := nofun

theorem reset_requestInv (p : Params) : (Regs.reset p).RequestInv := nofun

theorem reset_responseInv (p : Params) : (Regs.reset p).ResponseInv := by
  simp [Regs.ResponseInv, Regs.reset]

theorem reset_timerInv (p : Params) : (Regs.reset p).TimerInv where
  pulse_on := nofun
  note_on := nofun
  pulse_off := nofun
  note_off := nofun
  rest := nofun
  release := nofun

/-- Both stages hold a high trigger and no sample was taken while driving: the previous sample is high too. -/
theorem reset_loopbackInv (p : Params) : (Regs.reset p).LoopbackInv where
  second _ := .inr rfl
  first _ := .inr (by simp [Regs.reset, triggerBit])

/-! ### The bus invariant (10_state.md R39 a, b) -/

/-- The bus invariant reads four registers of the Write Path only. -/
theorem Regs.BusInv.of_eq {r n : Regs p} (h : r.BusInv) (hw : n.wstate = r.wstate) (hs : n.sup = r.sup)
    (ho : n.out = r.out) (hn : n.wNote = r.wNote) : n.BusInv := by
  obtain ⟨hiff, hdriven, hreleased⟩ := h
  exact ⟨by rwa [hs, hw], by rwa [hs, ho, hn], by rwa [hs, ho]⟩

/-- Entering `PULSE_ON` drives the note it is given, which is that of the request. -/
theorem enterPulseOn_busInv (r n : Regs p) {n6 : Note} (h : n.wNote = n6) : (enterPulseOn r n n6).BusInv where
  sup_iff := by simp
  driven _ := by simp [h]
  released := nofun

theorem enterPulseOff_busInv (r n : Regs p) : (enterPulseOff r n).BusInv where
  sup_iff := by simp
  driven := nofun
  released _ := rfl

theorem enterRestWait_busInv (n : Regs p) : (enterRestWait n).BusInv where
  sup_iff := by simp
  driven := nofun
  released _ := rfl

/-- `DONE` is entered from a state that has already released the lines. -/
theorem enterDone_busInv {n : Regs p} (h : n.BusInv) (hw : n.wstate ≠ .pulseOn) : (enterDone n).BusInv where
  sup_iff := by simp [h.sup_iff, hw]
  driven := h.driven
  released := h.released

theorem doWrite_busInv (r n : Regs p) (note : BitVec 8) (dur : Nat) : (doWrite r n note dur).BusInv := by
  rcases doWrite_cases r n note dur with ⟨-, h⟩ | ⟨-, h⟩ <;> rw [h]
  · exact enterPulseOn_busInv _ _ rfl
  · exact enterRestWait_busInv _

theorem advanceWritePath_busInv {r n : Regs p} (h : n.BusInv) (hw : n.wstate = r.wstate) (hn : n.wNote = r.wNote) :
    (advanceWritePath r n).BusInv := by
  rcases advanceWritePath_cases r n with ⟨-, e⟩ | ⟨-, -, e⟩ | ⟨-, -, e⟩ | ⟨-, -, e⟩ | ⟨-, -, -, e⟩ | ⟨hoff, -, -, e⟩ |
    ⟨-, -, e⟩ | ⟨hrest, -, e⟩ <;> rw [e]
  · exact h
  · exact h
  · exact enterPulseOff_busInv r n
  · exact h
  · exact enterPulseOn_busInv r n hn
  · exact enterDone_busInv h (by simp [hw, hoff])
  · exact h
  · exact enterDone_busInv h (by simp [hw, hrest])

theorem latched_busInv (i : Instr) (r : Regs p) (io : Inputs p) (h : r.BusInv) : (latched i r io).BusInv := by
  rcases latched_cases i r io with ⟨note, dur, -, e⟩ | ⟨trig, v, b, e⟩ <;> rw [e]
  · exact doWrite_busInv _ _ note dur
  · have hn : Regs.BusInv { everyCycle r io with triggered := trig, rsp := v, rspValid := b } :=
      h.of_eq (by simp) (by simp) (by simp) (by simp)
    exact advanceWritePath_busInv hn (by simp) (by simp)

/-! ### Other samples in the synchroniser (10_state.md R39 d) -/

/-- The registers with other samples in the two stages of the synchroniser. -/
def Regs.withSync (r : Regs p) (l1 l2 : Lines) : Regs p := { r with sync1 := l1, sync2 := l2 }

@[simp] theorem noResponse_withSync (n : Regs p) (m1 m2 : Lines) :
    noResponse (n.withSync m1 m2) = (noResponse n).withSync m1 m2 := rfl
@[simp] theorem respond_withSync (n : Regs p) (m1 m2 : Lines) (v : Response) :
    respond (n.withSync m1 m2) v = (respond n v).withSync m1 m2 := rfl
@[simp] theorem readResponse_withSync (r : Regs p) (l1 l2 : Lines) :
    readResponse (r.withSync l1 l2) = readResponse r := rfl
@[simp] theorem isplayResponse_withSync (r : Regs p) (l1 l2 : Lines) :
    isplayResponse (r.withSync l1 l2) = isplayResponse r := rfl
@[simp] theorem isreadResponse_withSync (r : Regs p) (l1 l2 : Lines) :
    isreadResponse (r.withSync l1 l2) = isreadResponse r := rfl
@[simp] theorem istrigResponse_withSync (r : Regs p) (l1 l2 : Lines) :
    istrigResponse (r.withSync l1 l2) = istrigResponse r := rfl

/-- The Write Path reads no sample. -/
theorem advanceWritePath_withSync (r n : Regs p) (l1 l2 m1 m2 : Lines) :
    advanceWritePath (r.withSync l1 l2) (n.withSync m1 m2) = (advanceWritePath r n).withSync m1 m2 := by
  have hw : (r.withSync l1 l2).wstate = r.wstate := rfl
  have hon : pulseOnOver (r.withSync l1 l2) = pulseOnOver r := rfl
  have hoff : pulseOffOver (r.withSync l1 l2) = pulseOffOver r := rfl
  have hdur : durationReached (r.withSync l1 l2) = durationReached r := rfl
  unfold advanceWritePath
  rw [hw, hon, hoff, hdur]
  cases r.wstate with
  | done => rfl
  | pulseOn => cases pulseOnOver r <;> rfl
  | pulseOff => cases pulseOffOver r <;> cases durationReached r <;> rfl
  | restWait => cases durationReached r <;> rfl

/-- A WRITE reads no sample. -/
theorem doWrite_withSync (r n : Regs p) (l1 l2 m1 m2 : Lines) (note : BitVec 8) (dur : Nat) :
    doWrite (r.withSync l1 l2) (n.withSync m1 m2) note dur = (doWrite r n note dur).withSync m1 m2 := by
  unfold doWrite
  split <;> rfl

/-- The capture condition reads the trigger sample only. -/
theorem captureNow_withSync (r : Regs p) (l1 : Lines) {l2 : Lines} (h : triggerBit l2 = triggerBit r.sync2) :
    captureNow (r.withSync l1 l2) = captureNow r := by
  simp only [captureNow, triggerEdge, Regs.withSync, h]; rfl

theorem consumeTrigger_withSync (r n : Regs p) (l1 m1 m2 : Lines) {l2 : Lines} (h : triggerBit l2 = triggerBit r.sync2) :
    consumeTrigger (r.withSync l1 l2) (n.withSync m1 m2) = (consumeTrigger r n).withSync m1 m2 := by
  unfold consumeTrigger
  rw [captureNow_withSync r l1 h]
  split <;> rfl

/-- A capture stores the data of its sample; without one, other data change nothing. -/
theorem capture_withSync (r n : Regs p) (l1 m1 m2 : Lines) {l2 : Lines} (htrig : triggerBit l2 = triggerBit r.sync2)
    (hcap : captureNow r = true → l2 = r.sync2) :
    capture (r.withSync l1 l2) (n.withSync m1 m2) = (capture r n).withSync m1 m2 := by
  unfold capture
  rw [captureNow_withSync r l1 htrig]
  split
  case isTrue h => rw [hcap h]; rfl
  case isFalse => rfl

/-- The sync delivers the captured note, not a sample. -/
theorem syncRelease_withSync (r n : Regs p) (l1 l2 m1 m2 : Lines) :
    syncRelease (r.withSync l1 l2) (n.withSync m1 m2) = (syncRelease r n).withSync m1 m2 := by
  have hp : (r.withSync l1 l2).pending = r.pending := rfl
  have hr : (r.withSync l1 l2).reading = r.reading := rfl
  have ho : releaseOver (r.withSync l1 l2) = releaseOver r := rfl
  unfold syncRelease
  rw [hp, hr, ho]
  cases r.pending with
  | true => rfl
  | false => cases r.reading && releaseOver r <;> rfl

/-- `SYNC2` takes the other sample of `SYNC1`; `TRIG_PREV` takes the trigger, on which the samples agree. -/
theorem conditionInputs_withSync (r n : Regs p) (k l l1 : Lines) {l2 : Lines} (h : triggerBit l2 = triggerBit r.sync2) :
    conditionInputs (r.withSync l1 l2) (n.withSync l1 l2) l = (conditionInputs r n k).withSync l l1 := by
  simp only [conditionInputs, Regs.withSync, h]

theorem everyCycle_withSync (r : Regs p) (io : Inputs p) (l l1 : Lines) {l2 : Lines}
    (htrig : triggerBit l2 = triggerBit r.sync2) (hcap : captureNow r = true → l2 = r.sync2) :
    everyCycle (r.withSync l1 l2) { io with linkIn := l } = (everyCycle r io).withSync l l1 := by
  have htime : timeBase (r.withSync l1 l2) (r.withSync l1 l2) io.tick = (timeBase r r io.tick).withSync l1 l2 := rfl
  unfold everyCycle
  rw [htime, conditionInputs_withSync _ _ io.linkIn l l1 htrig, capture_withSync _ _ _ _ _ htrig hcap,
    syncRelease_withSync]

/-- In a whole cycle, whatever the command, samples with the same trigger that no capture stores change nothing but the
synchroniser. -/
theorem latched_withSync (i : Instr) (r : Regs p) (io : Inputs p) (l l1 : Lines) {l2 : Lines}
    (htrig : triggerBit l2 = triggerBit r.sync2) (hcap : captureNow r = true → l2 = r.sync2) :
    latched i (r.withSync l1 l2) { io with linkIn := l } = (latched i r io).withSync l l1 := by
  have he := everyCycle_withSync r io l l1 htrig hcap
  cases i with
  | write note dur => simp [latched, he, doWrite_withSync]
  | nop | rsvd6 | rsvd7 | read | isplay | isread => simp [latched, he, advanceWritePath_withSync]
  | istrig => simp [latched, he, consumeTrigger_withSync r _ l1 l l1 htrig, advanceWritePath_withSync]

/-! ### Two runs that agree but for samples taken while driving -/

theorem Regs.AgreeButDriven.refl (r : Regs p) : r.AgreeButDriven r :=
  ⟨rfl, rfl, rfl, fun _ => rfl, fun _ => rfl⟩

/-- No output reads the synchroniser (10_state.md R36). -/
theorem Regs.AgreeButDriven.outputs_eq {r r' : Regs p} (h : r.AgreeButDriven r') : outputs r = outputs r' := by
  rw [h.rest]; rfl

/-- A capture is made outside the guard (42_read_path.md R91), so its sample was not taken while driving. -/
theorem Regs.AgreeButDriven.sync2_of_captureNow {r r' : Regs p} (h : r.AgreeButDriven r') (hc : captureNow r = true) :
    r'.sync2 = r.sync2 := by
  obtain ⟨-, -, hguard, -⟩ := (captureNow_iff r).mp hc
  obtain ⟨-, -, hd⟩ := (guardActive_eq_false_iff r).mp hguard
  exact h.sync2 hd

/-- One cycle of the two runs: the samples change no register but the synchroniser. -/
theorem latched_agreeButDriven {r r' : Regs p} {io io' : Inputs p} (h : r.AgreeButDriven r')
    (hio : Inputs.AgreeButDriven r.sup io io') (i : Instr) :
    (latched i r io).AgreeButDriven (latched i r' io') where
  rest := by
    have hr : r' = r.withSync r'.sync1 r'.sync2 := h.rest
    have hl := latched_withSync i r io io'.linkIn r'.sync1 h.trigger2 h.sync2_of_captureNow
    rw [← hr, ← hio.rest] at hl
    rw [hl]; rfl
  trigger1 := by simpa using hio.trigger
  trigger2 := by simpa using h.trigger1
  sync1 hd := by simpa using hio.link (latched_supD_zero i r io ▸ hd)
  sync2 hd := by simpa using h.sync1 (latched_supD_one i r io ▸ hd)

/-! ### The obligations -/

/-- Settles O38: every command's cycle keeps the bus invariant, and the reset registers meet it. -/
theorem stepKeepsTheBusInvariant : Obligations.StepKeepsTheBusInvariant :=
  fun _ _ hs hstep => step_keeps_of_latched reset_busInv latched_busInv hs hstep

/-- Settles O45: a sample taken while driving keeps its trigger bit, and no capture stores its data because of the guard. -/
theorem dataSampledWhileDrivingIsNeverUsed : Obligations.DataSampledWhileDrivingIsNeverUsed := by
  intro p r r' io io' q q' c c' hlegal hr hio
  have hrst : io'.rstN = io.rstN := by rw [hio.rest]
  have hcmd : io'.commandWord = io.commandWord := by rw [hio.rest]; rfl
  cases hn : io.rstN with
  | false =>
    exact ⟨_, _, step_of_reset hlegal hn, step_of_reset hlegal (hrst.trans hn), .refl _, rfl⟩
  | true =>
    have ha := latched_agreeButDriven hr hio (decode p io.commandWord)
    refine ⟨_, _, step_of_running hlegal hn, step_of_running hlegal (hrst.trans hn), ?_⟩
    rw [hcmd]
    exact ⟨ha, ha.outputs_eq⟩

/-- Settles O12: every output port is a projection of the registers; `playing_o` decides `WSTATE != DONE`. -/
theorem outputsAreFunctionsOfTheRegisters : Obligations.OutputsAreFunctionsOfTheRegisters :=
  fun _ => ⟨rfl, rfl, rfl, decide_eq_true_iff, rfl, rfl, rfl, rfl, rfl⟩

/-- Settles O13: R37's values by definition, and the edge into a cycle with `rst_n` = 0 leaves them. -/
theorem resetValuesOfEveryRegister : Obligations.ResetValuesOfEveryRegister := by
  refine ⟨rfl, fun s t hstep hrst => ?_, fun p => ⟨rfl, rfl, rfl, rfl, rfl, rfl, rfl, rfl, rfl, rfl, rfl, rfl, rfl, rfl,
    rfl, rfl, rfl, rfl, rfl, rfl, rfl⟩⟩
  obtain ⟨-, ⟨-, rfl⟩ | ⟨-, rfl⟩⟩ := step_next_cases hstep <;> exact advance_regs_of_reset hrst

/-- Settles O16: every command latches the time base. -/
theorem timeBaseCountsTicks : Obligations.TimeBaseCountsTicks := by
  refine fun i s => ⟨_, exec_eq_latched i s, ?_⟩
  rw [latched_now, BitVec.toNat_add, toNat_tick, Nat.add_mod_mod]
  cases s.pins.tick <;> rfl

/-- Settles O17: every command latches the conditioned inputs. -/
theorem inputConditioningEveryCycle : Obligations.InputConditioningEveryCycle :=
  fun i s => ⟨_, exec_eq_latched i s, latched_sync1 i s.regs s.pins, latched_sync2 i s.regs s.pins,
    latched_trigPrev i s.regs s.pins, latched_supD_zero i s.regs s.pins, latched_supD_one i s.regs s.pins⟩

/-- Settles O42: no capture, pulse, rest or reading is under way at reset, the lines are released and `RSP` is 0. -/
theorem resetMeetsEveryInvariant : Obligations.ResetMeetsEveryInvariant :=
  fun p => ⟨reset_busInv p, reset_mailboxInv p, reset_requestInv p, reset_responseInv p, reset_timerInv p,
    reset_loopbackInv p, fun _ => rfl⟩

end Sys2Proof.Machine
end

section
/-! PROOFS. The statements from 30_encoding.md: the fields of a command word, the decoder by its opcode, what the
operand ports select, and the ranges of the request and the response. -/

namespace Sys2Proof

variable {p : Params}

/-! ### The fields of a command word (30_encoding.md R57) -/

theorem noteField_packWord (p : Params) (dur : BitVec p.wDur) (note : BitVec 8) (op : BitVec 3) :
    noteField p (packWord p dur note op) = note := by
  simp [noteField, packWord, BitVec.extractLsb'_append_eq_of_le, BitVec.extractLsb'_append_eq_of_add_le]

theorem durField_packWord (p : Params) (dur : BitVec p.wDur) (note : BitVec 8) (op : BitVec 3) :
    durField p (packWord p dur note op) = dur := by
  simp [durField, packWord, BitVec.extractLsb'_append_eq_of_le]

/-- The three fields are the whole word. -/
theorem packWord_fields (cw : CmdWord p) : packWord p (durField p cw) (noteField p cw) (opField p cw) = cw := by
  have hhigh : durField p cw ++ noteField p cw = cw.extractLsb' 3 (p.wDur + 8) :=
    BitVec.extractLsb'_append_extractLsb'_eq_extractLsb' rfl
  rw [packWord, hhigh]
  exact (BitVec.extractLsb'_append_extractLsb'_eq_extractLsb' rfl).trans BitVec.extractLsb'_eq_self

theorem opField_toNat (cw : CmdWord p) : (opField p cw).toNat = cw.toNat % 8 := by
  simp [opField, BitVec.extractLsb'_toNat]

theorem noteField_toNat (cw : CmdWord p) : (noteField p cw).toNat = cw.toNat / 2 ^ 3 % 2 ^ 8 := by
  rw [noteField, BitVec.extractLsb'_toNat, Nat.shiftRight_eq_div_pow]

/-- The duration is the topmost field, so nothing is cut off above it. -/
theorem durField_toNat (cw : CmdWord p) : (durField p cw).toNat = cw.toNat / 2 ^ 11 := by
  have hlt : cw.toNat / 2 ^ 11 < 2 ^ p.wDur :=
    Nat.div_lt_of_lt_mul (cw.isLt.trans_eq (by rw [Nat.add_assoc, Nat.add_comm, Nat.pow_add]))
  rw [durField, BitVec.extractLsb'_toNat, Nat.shiftRight_eq_div_pow, Nat.mod_eq_of_lt hlt]

/-! ### The decoder by its opcode (30_encoding.md R65, R67) -/

theorem Instr.isWrite_iff_opcode (i : Instr) : i.isWrite = true ↔ i.opcode = 0b001#3 := by
  cases i <;> simp [Instr.isWrite, Instr.opcode]

/-- The decoded command has the word's opcode. -/
theorem opcode_decode (cw : CmdWord p) : (decode p cw).opcode = opField p cw := by
  unfold decode
  split
  all_goals rename_i h; exact (BitVec.toFin_inj.mp h).symm

/-- A command other than WRITE is decoded from its opcode alone. -/
theorem decode_eq_iff_of_not_write {cw : CmdWord p} {i : Instr} (hi : i.isWrite = false) :
    decode p cw = i ↔ opField p cw = i.opcode := by
  constructor
  · rintro rfl
    exact (opcode_decode cw).symm
  · intro h
    unfold decode
    rw [h]
    cases i with
    | write => cases hi
    | nop | read | isplay | isread | istrig | rsvd6 | rsvd7 => rfl

theorem decode_write_of_opField {cw : CmdWord p} (h : opField p cw = 0b001#3) :
    decode p cw = .write (noteField p cw) (durField p cw).toNat := by
  unfold decode
  rw [h]
  rfl

theorem decode_isWrite_iff (cw : CmdWord p) : (decode p cw).isWrite = true ↔ opField p cw = 0b001#3 := by
  rw [Instr.isWrite_iff_opcode, opcode_decode]

theorem decode_eq_write_iff {cw : CmdWord p} {note : BitVec 8} {dur : Nat} :
    decode p cw = .write note dur ↔
      opField p cw = 0b001#3 ∧ noteField p cw = note ∧ (durField p cw).toNat = dur := by
  constructor
  · intro h
    have hop : opField p cw = 0b001#3 := (decode_isWrite_iff cw).mp (by rw [h]; rfl)
    rw [decode_write_of_opField hop] at h
    exact ⟨hop, Instr.write.inj h⟩
  · rintro ⟨hop, rfl, rfl⟩
    exact decode_write_of_opField hop

/-- Words with one opcode other than WRITE's decode to one command (30_encoding.md R60). -/
theorem decode_congr_of_not_write {cw cw' : CmdWord p} (hop : opField p cw' = opField p cw)
    (hw : opField p cw ≠ 0b001#3) :
    decode p cw' = decode p cw := by
  have hi : (decode p cw).isWrite = false := Bool.eq_false_iff.mpr (mt (decode_isWrite_iff cw).mp hw)
  exact (decode_eq_iff_of_not_write hi).mpr (hop.trans (opcode_decode cw).symm)

/-! ### The opcode map -/

theorem mask_of_mem_opcodeRows : ∀ row ∈ opcodeRows, row.mask = 0x7 := by decide

/-- Under the mask `0x7` a row reads the low three bits only. -/
theorem OpcodeRow.selects_mod_eight {row : OpcodeRow} (h : row.mask = 0x7) (w : Nat) :
    row.selects w = row.selects (w % 8) := by
  have hlow (v : Nat) : v &&& 0x7 = v % 8 := Nat.and_two_pow_sub_one_eq_mod v 3
  simp [OpcodeRow.selects, h, hlow]

/-- A command's opcode selects the row with its mnemonic and no other. -/
theorem opcodeRows_filter_opcode (i : Instr) :
    (opcodeRows.filter fun row => row.selects i.opcode.toNat).map OpcodeRow.mnemonic = [i.mnemonic] := by
  cases i <;> simp [opcodeRows, OpcodeRow.selects, Instr.opcode, Instr.mnemonic]

/-- A word selects the rows that the decoded command's opcode selects. -/
theorem selects_eq_selects_opcode (cw : CmdWord p) {row : OpcodeRow} (h : row ∈ opcodeRows) :
    row.selects cw.toNat = row.selects (decode p cw).opcode.toNat := by
  rw [opcode_decode, opField_toNat]
  exact row.selects_mod_eight (mask_of_mem_opcodeRows row h) cw.toNat

end Sys2Proof

namespace Sys2Proof.Machine

variable {p : Params}

/-! ### The operand ports (30_encoding.md R60) -/

theorem opField_commandWord (io : Inputs p) : opField p io.commandWord = io.cmd := opField_packWord p _ _ _

/-- A command's meaning reads its decoded operands, never the operand ports. -/
theorem exec_withOperands (i : Instr) (s : State) (note : BitVec 8) (dur : BitVec s.cfg.wDur) :
    exec i { s with pins := { s.pins with note := note, dur := dur } } = exec i s := by
  cases i <;> rfl

/-! ### The request and the response (30_encoding.md R58, 44_host_commands.md R133) -/

/-- The Write Path's own transition pulses only where a pulse train is under way. -/
theorem pulsing_of_advanceWritePath {r n : Regs p} (hw : n.wstate = r.wstate)
    (h : (advanceWritePath r n).wstate = .pulseOn ∨ (advanceWritePath r n).wstate = .pulseOff) :
    r.wstate = .pulseOn ∨ r.wstate = .pulseOff := by
  rcases advanceWritePath_cases r n with ⟨-, e⟩ | ⟨hon, -⟩ | ⟨hon, -⟩ | ⟨hoff, -⟩ | ⟨hoff, -⟩ | ⟨hoff, -⟩ | ⟨-, -, e⟩ |
    ⟨-, -, e⟩
  · rwa [e, hw] at h
  · exact .inl hon
  · exact .inl hon
  · exact .inr hoff
  · exact .inr hoff
  · exact .inr hoff
  · rwa [e, hw] at h
  · simp [e] at h

theorem advanceWritePath_requestInv {r n : Regs p} (h : r.RequestInv) (hw : n.wstate = r.wstate)
    (hn : n.wNote = r.wNote) : (advanceWritePath r n).RequestInv := by
  intro hp
  rw [advanceWritePath_wNote, hn]
  exact h (pulsing_of_advanceWritePath hw hp)

/-- A WRITE starts a pulse train only for a note of at most 48, which 6 bits hold. -/
theorem doWrite_requestInv (r n : Regs p) (note : BitVec 8) (dur : Nat) : (doWrite r n note dur).RequestInv := by
  intro hp
  rcases doWrite_cases r n note dur with ⟨hle, e⟩ | ⟨-, e⟩
  · rw [e, enterPulseOn_wNote, loadRequest_wNote, storedNote_toNat]
    omega
  · simp [e] at hp

theorem latched_requestInv (i : Instr) (r : Regs p) (io : Inputs p) (h : r.RequestInv) :
    (latched i r io).RequestInv := by
  rcases latched_cases i r io with ⟨note, dur, -, e⟩ | ⟨trig, v, b, e⟩ <;> rw [e]
  · exact doWrite_requestInv _ _ note dur
  · exact advanceWritePath_requestInv h (by simp) (by simp)

/-- `RSP` holds its value, or takes `CURNOTE` or a one-bit answer. -/
theorem latched_rsp_cases (i : Instr) (r : Regs p) (io : Inputs p) :
    (latched i r io).rsp = r.rsp ∨ (latched i r io).rsp = readResponse r ∨
      ∃ b, (latched i r io).rsp = bitResponse b := by
  cases i with
  | nop | write | rsvd6 | rsvd7 => exact .inl (by simp [latched])
  | read => exact .inr (.inl (by simp [latched]))
  | isplay => exact .inr (.inr ⟨playing r, by simp [latched, isplayResponse]⟩)
  | isread => exact .inr (.inr ⟨r.reading, by simp [latched, isreadResponse]⟩)
  | istrig => exact .inr (.inr ⟨r.triggered, by simp [latched, istrigResponse]⟩)

theorem readResponse_lt (r : Regs p) : (readResponse r).toNat < 64 := by
  simpa [readResponse] using Nat.mod_lt_of_lt r.curNote.isLt

theorem bitResponse_lt (b : Bool) : (bitResponse b).toNat < 64 := by
  cases b <;> decide

theorem latched_responseInv (i : Instr) (r : Regs p) (io : Inputs p) (h : r.ResponseInv) :
    (latched i r io).ResponseInv := by
  unfold Regs.ResponseInv
  rcases latched_rsp_cases i r io with e | e | ⟨b, e⟩ <;> rw [e]
  · exact h
  · exact readResponse_lt r
  · exact bitResponse_lt b

/-! ### The obligations -/

/-- Settles O1: each field of a packed word reads back, and the opcode selects the command. -/
theorem decodeOfEncodeIsTheCommand : Obligations.DecodeOfEncodeIsTheCommand := by
  intro p i hwf
  cases i with
  | write note dur =>
    have hdur : dur < 2 ^ p.wDur := by simpa [Instr.wf] using hwf
    refine decode_eq_write_iff.mpr ⟨opField_packWord p _ _ _, noteField_packWord p _ _ _, ?_⟩
    rw [encode, durField_packWord, BitVec.toNat_ofNat, Nat.mod_eq_of_lt hdur]
  | nop | read | isplay | isread | istrig | rsvd6 | rsvd7 =>
    exact (decode_eq_iff_of_not_write rfl).mpr (opField_packWord p _ _ _)

/-- Settles O2: the decoded operands and the opcode are the word's three fields. -/
theorem encodeOfDecodedWriteIsTheWord : Obligations.EncodeOfDecodedWriteIsTheWord := by
  intro p cw note dur h
  obtain ⟨hop, rfl, rfl⟩ := decode_eq_write_iff.mp h
  refine ⟨(durField p cw).isLt, ?_⟩
  rw [encode, BitVec.ofNat_toNat, BitVec.setWidth_eq, ← hop, packWord_fields]

/-- Settles O3: every row reads the low three bits only, which are the decoded command's opcode. -/
theorem exactlyOneOpcodeRowSelectsEveryWord : Obligations.ExactlyOneOpcodeRowSelectsEveryWord := by
  refine ⟨mask_of_mem_opcodeRows, fun p cw => ⟨?_, fun note dur h => ?_⟩⟩
  · rw [List.filter_congr fun _ => selects_eq_selects_opcode cw]
    exact opcodeRows_filter_opcode (decode p cw)
  · obtain ⟨-, rfl, rfl⟩ := decode_eq_write_iff.mp h
    exact ⟨noteField_toNat cw, durField_toNat cw⟩

/-- Settles O40: each of the two ranges holds of the reset registers, and every command's cycle keeps it. -/
theorem stepKeepsRequestAndResponseInRange : Obligations.StepKeepsRequestAndResponseInRange :=
  fun _ _ ⟨hreq, hrsp⟩ hstep => ⟨step_keeps_of_latched reset_requestInv latched_requestInv hreq hstep,
    step_keeps_of_latched reset_responseInv latched_responseInv hrsp hstep⟩

/-- Settles O4: the word decodes to the same command whatever its operand fields, and the cycle reads no
operand port. -/
theorem operandsOfOtherCommandsAreIgnored : Obligations.OperandsOfOtherCommandsAreIgnored := by
  intro s note dur hcmd
  have hdec : decode s.cfg (Inputs.commandWord { s.pins with note := note, dur := dur }) =
      decode s.cfg s.pins.commandWord := by
    apply decode_congr_of_not_write
    · simp only [opField_commandWord]
    · rwa [opField_commandWord]
  simp only [step, hdec, exec_withOperands]
  rfl

/-- Settles O5: the decoder evaluated on the listed words. -/
theorem specWordsDecodeAsListed : Obligations.SpecWordsDecodeAsListed := by
  unfold Obligations.SpecWordsDecodeAsListed
  decide

end Sys2Proof.Machine
end

section
/-! PROOFS. The statements from 40_cycle_step.md: the pseudo-code's conditions in the model's terms, the two ways through
its cycle (a WRITE, or the Write Path's own transition), and the writers of `CURNOTE`. -/

namespace Sys2Proof.Machine

variable {p : Params}

/-! ### The pseudo-code's conditions (40_cycle_step.md R70) -/

/-- A time up to 2^`W_T` - 2 is compared at the width `W_T` as it is among the naturals (00_scope.md R7, R12). -/
theorem ofNat_lt_elapsed_iff (r : Regs p) (stamp : BitVec p.wT) {t : Nat} (h : t ≤ 2 ^ p.wT - 2) :
    BitVec.ofNat p.wT t < r.now - stamp ↔ exceeds r stamp t = true := by
  have hpos := Nat.two_pow_pos p.wT
  rw [BitVec.lt_def, BitVec.toNat_ofNat, Nat.mod_eq_of_lt (by omega), exceeds, decide_eq_true_iff, elapsed]

/-- `elapsed(NOTE_STAMP) <u zext_W_T(WDUR)` is "not yet reached" (00_scope.md R12). -/
theorem elapsed_lt_setWidth_iff (r : Regs p) (h : p.wDur < p.wT) :
    r.now - r.noteStamp < r.wDur.setWidth p.wT ↔ durationReached r = false := by
  have hdur : r.wDur.toNat < 2 ^ p.wT := r.wDur.isLt.trans (Nat.pow_lt_pow_right (by decide) h)
  rw [BitVec.lt_def, BitVec.toNat_setWidth, Nat.mod_eq_of_lt hdur, durationReached, decide_eq_false_iff_not, Nat.not_le,
    elapsed]

theorem setWidth_tick (b : Bool) (w : Nat) : (BitVec.ofBool b).setWidth w = if b then 1#w else 0#w := by
  cases b
  · simp
  · exact BitVec.eq_of_toNat_eq (by simp)

/-- The guard pipeline's low bit, sliced or read (10_state.md R33). -/
theorem extractLsb'_zero_one (v : BitVec 2) : v.extractLsb' 0 1 = BitVec.ofBool (v.getLsbD 0) := by
  ext i hi
  obtain rfl : i = 0 := by omega
  simp

theorem storedDur_toNat (d : BitVec p.wDur) : storedDur p d.toNat = d := by
  simp [storedDur]

theorem zero_append_curNote (r : Regs p) : 0#2 ++ r.curNote = readResponse r :=
  (BitVec.setWidth_eq_append (by decide)).symm

theorem zero_append_ofBool (b : Bool) : 0#7 ++ BitVec.ofBool b = bitResponse b := by
  cases b <;> rfl

theorem playing_eq_bne (r : Regs p) : playing r = (r.wstate != .done) :=
  Bool.eq_iff_iff.mpr (by simp [playing])

/-! ### The pseudo-code's cycle, register by register -/

/-- The sync and the release, in every cycle with `rst_n` = 1 (42_read_path.md R94, R95). -/
theorem pseudocodeStep_reading (hl : p.legal = true) {io : Inputs p} (hrun : io.rstN = true) (r : Regs p) :
    (pseudocodeStep r io).reading = (r.pending || (r.reading && !releaseOver r)) := by
  obtain ⟨⟨-, -, -, hrel⟩, -⟩ := (legal_iff p).mp hl
  have hover : _ ↔ releaseOver r = true := ofNat_lt_elapsed_iff r _ hrel
  cases hp : r.pending <;> cases hr : r.reading <;> simp [pseudocodeStep, hrun, hover, hp, hr]

/-- A cycle with a WRITE: the request's registers, and the Write Path's by the note's class. -/
theorem pseudocodeStep_of_write (hl : p.legal = true) {io : Inputs p} (hrun : io.rstN = true)
    (hcmd : io.cmd = 0b001#3) (r : Regs p) :
    pseudocodeStep r io = doWrite r (noResponse (everyCycle r io)) io.note io.dur.toNat := by
  ext1
  case reading => simpa using pseudocodeStep_reading hl hrun r
  case wstate | sup | out | curNote =>
    by_cases h : io.note ≤ 48#8 <;> simp [pseudocodeStep, hrun, hcmd, h, isPlayable, storedNote]
  all_goals simp [pseudocodeStep, hrun, hcmd, setWidth_tick, extractLsb'_zero_one, storedDur_toNat, storedNote,
    captureNow, triggerEdge, guardActive, triggerBit]

/-- A cycle without a WRITE: the Write Path's own transition, whatever the command leaves in the trigger latch and the
response register. -/
theorem pseudocodeStep_of_not_write (hl : p.legal = true) {r : Regs p} {io : Inputs p} (hrun : io.rstN = true)
    (hcmd : io.cmd ≠ 0b001#3) {trig : Bool} {v : Response} {b : Bool} (htrig : (pseudocodeStep r io).triggered = trig)
    (hv : (pseudocodeStep r io).rsp = v) (hb : (pseudocodeStep r io).rspValid = b) :
    pseudocodeStep r io = advanceWritePath r { everyCycle r io with triggered := trig, rsp := v, rspValid := b } := by
  obtain ⟨⟨⟨-, -, -, hdur⟩, hon, hoff, -⟩, -⟩ := (legal_iff p).mp hl
  have honOver : _ ↔ pulseOnOver r = true := ofNat_lt_elapsed_iff r _ hon
  have hoffOver : _ ↔ pulseOffOver r = true := ofNat_lt_elapsed_iff r _ hoff
  have hreached := elapsed_lt_setWidth_iff r hdur
  ext1
  case triggered => simpa using htrig
  case rsp => simpa using hv
  case rspValid => simpa using hb
  case reading => simpa using pseudocodeStep_reading hl hrun r
  case wstate | sup | out | pulseStamp | curNote =>
    clear htrig hv hb
    rcases advanceWritePath_cases r { everyCycle r io with triggered := trig, rsp := v, rspValid := b } with
      ⟨hw, e⟩ | ⟨hw, ho, e⟩ | ⟨hw, ho, e⟩ | ⟨hw, ho, e⟩ | ⟨hw, ho, hd, e⟩ | ⟨hw, ho, hd, e⟩ | ⟨hw, hd, e⟩ |
      ⟨hw, hd, e⟩ <;> rw [e] <;> simp [pseudocodeStep, *]
  all_goals simp [pseudocodeStep, hrun, hcmd, setWidth_tick, extractLsb'_zero_one, captureNow, triggerEdge,
    guardActive, triggerBit]

/-- The trigger latch, by the opcode (40_cycle_step.md R72 b). -/
theorem pseudocodeStep_triggered {io : Inputs p} (hrun : io.rstN = true) (r : Regs p) :
    (pseudocodeStep r io).triggered = (captureNow r || (r.triggered && decide (io.cmd ≠ 0b101#3))) := by
  have h : (pseudocodeStep r io).triggered =
      if captureNow r then true else if io.cmd == 0b101#3 then false else r.triggered := by
    simp only [pseudocodeStep, hrun]
    rfl
  rw [h]
  cases captureNow r <;> by_cases hc : io.cmd = 0b101#3 <;> simp [hc]

/-- The trigger latch and the response register take what the command of the opcode on the port leaves in them. -/
theorem pseudocodeStep_answer {io : Inputs p} (hrun : io.rstN = true) {i : Instr} (hi : i.opcode = io.cmd)
    (r : Regs p) :
    (pseudocodeStep r io).triggered = (latched i r io).triggered ∧
    (pseudocodeStep r io).rsp = (latched i r io).rsp ∧
    (pseudocodeStep r io).rspValid = (latched i r io).rspValid := by
  rw [pseudocodeStep_triggered hrun, latched_triggered, latched_rspValid, ← hi]
  cases i with
  | nop | write | rsvd6 | rsvd7 => simp [pseudocodeStep, hrun, ← hi, Instr.opcode, Instr.isQuery, latched]
  | read =>
    simp [pseudocodeStep, hrun, ← hi, Instr.opcode, Instr.isQuery, latched, zero_append_curNote]
  | isplay | isread | istrig =>
    simp [pseudocodeStep, hrun, ← hi, Instr.opcode, Instr.isQuery, latched, zero_append_ofBool, isplayResponse,
      isreadResponse, istrigResponse, playing_eq_bne]

/-- A command other than WRITE: the Write Path's own transition on what `everyCycle` gives, with the command's answer. -/
theorem latched_of_not_write {i : Instr} (hi : i.isWrite = false) (r : Regs p) (io : Inputs p) :
    latched i r io = advanceWritePath r { everyCycle r io with
      triggered := (latched i r io).triggered, rsp := (latched i r io).rsp, rspValid := (latched i r io).rspValid } := by
  rcases latched_cases i r io with ⟨note, dur, rfl, -⟩ | ⟨trig, v, b, e⟩
  · cases hi
  · rw [e]
    simp

/-- The pseudo-code's cycle is that of the command on the port. -/
theorem pseudocodeStep_of_running (hl : p.legal = true) {io : Inputs p} (hrun : io.rstN = true) (r : Regs p) :
    pseudocodeStep r io = latched (decode p io.commandWord) r io := by
  have hop : opField p io.commandWord = io.cmd := opField_commandWord io
  by_cases hcmd : io.cmd = 0b001#3
  · have hnote : noteField p io.commandWord = io.note := noteField_packWord p _ _ _
    have hdur : durField p io.commandWord = io.dur := durField_packWord p _ _ _
    rw [decode_write_of_opField (hop.trans hcmd), hnote, hdur]
    exact pseudocodeStep_of_write hl hrun hcmd r
  · have hi : (decode p io.commandWord).isWrite = false := by
      rw [Bool.eq_false_iff, Ne, decode_isWrite_iff, hop]
      exact hcmd
    obtain ⟨htrig, hv, hb⟩ := pseudocodeStep_answer hrun ((opcode_decode io.commandWord).trans hop) r
    rw [latched_of_not_write hi]
    exact pseudocodeStep_of_not_write hl hrun hcmd htrig hv hb

theorem pseudocodeStep_of_reset {io : Inputs p} (hrst : io.rstN = false) (r : Regs p) :
    pseudocodeStep r io = Regs.reset p := if_pos hrst

/-! ### The writers of `CURNOTE` (40_cycle_step.md R72 a) -/

theorem isWrite_iff_eq_write {i : Instr} : i.isWrite = true ↔ ∃ note dur, i = .write note dur := by
  cases i <;> simp [Instr.isWrite]

/-- A command other than WRITE enters `PULSE_ON` by the repeat only. -/
theorem pulseOnEntry_iff_of_not_write (r : Regs p) {i : Instr} (hi : i.isWrite = false) (n : Note) :
    PulseOnEntry r i n ↔ repeatDue r ∧ n = r.wNote := by
  cases i with
  | write => cases hi
  | nop | read | isplay | isread | istrig | rsvd6 | rsvd7 => rfl

theorem advanceWritePath_of_repeatDue {r : Regs p} (h : repeatDue r) (n : Regs p) :
    advanceWritePath r n = enterPulseOn r n r.wNote := by
  obtain ⟨hw, hover, hreached⟩ := h
  simp [advanceWritePath, hw, hover, hreached]

/-- Without the repeat the Write Path's own transition leaves `CURNOTE`. -/
theorem advanceWritePath_curNote_of_not_repeatDue {r : Regs p} (h : ¬repeatDue r) (n : Regs p) :
    (advanceWritePath r n).curNote = n.curNote := by
  rcases advanceWritePath_cases r n with ⟨-, e⟩ | ⟨-, -, e⟩ | ⟨-, -, e⟩ | ⟨-, -, e⟩ | ⟨hw, ho, hd, -⟩ |
    ⟨-, -, -, e⟩ | ⟨-, -, e⟩ | ⟨-, -, e⟩
  case inr.inr.inr.inr.inl => exact absurd ⟨hw, ho, hd⟩ h
  all_goals simp [e]

/-- An entry to `PULSE_ON` writes its note, whatever the sync of the same cycle. -/
theorem latched_curNote_of_entry {i : Instr} {r : Regs p} {n : Note} (h : PulseOnEntry r i n) (io : Inputs p) :
    (latched i r io).curNote = n := by
  cases hi : i.isWrite with
  | true =>
    obtain ⟨note, dur, rfl⟩ := isWrite_iff_eq_write.mp hi
    obtain ⟨hle, rfl⟩ := h
    simp [latched, (isPlayable_iff note).mpr hle, storedNote]
  | false =>
    obtain ⟨hrep, rfl⟩ := (pulseOnEntry_iff_of_not_write r hi n).mp h
    rw [latched_of_not_write hi, advanceWritePath_of_repeatDue hrep, enterPulseOn_curNote]

/-- Without an entry only the sync writes it. -/
theorem latched_curNote_of_no_entry {i : Instr} {r : Regs p} (h : ∀ n, ¬PulseOnEntry r i n) (io : Inputs p) :
    (latched i r io).curNote = if r.pending then r.capNote else r.curNote := by
  cases hi : i.isWrite with
  | true =>
    obtain ⟨note, dur, rfl⟩ := isWrite_iff_eq_write.mp hi
    have hrest : isPlayable note = false :=
      Bool.eq_false_iff.mpr fun hp => h _ ⟨(isPlayable_iff note).mp hp, rfl⟩
    simp [latched, hrest]
  | false =>
    have hrep : ¬repeatDue r := fun hrep => h _ ((pulseOnEntry_iff_of_not_write r hi _).mpr ⟨hrep, rfl⟩)
    rw [latched_of_not_write hi, advanceWritePath_curNote_of_not_repeatDue hrep]
    exact everyCycle_curNote r io

/-! ### The obligations -/

/-- Settles O11: in reset both give the reset values, and otherwise the command's cycle is the pseudo-code's. -/
theorem stepRefinesThePseudocode : Obligations.StepRefinesThePseudocode := by
  intro s hl
  cases hr : s.pins.rstN with
  | false => rw [step_of_reset hl hr, pseudocodeStep_of_reset hr]
  | true => rw [step_of_running hl hr, pseudocodeStep_of_running hl hr]

/-- Settles O22: a WRITE by the note's class, every other command by whether the repeat is due. -/
theorem currentNotePriority : Obligations.CurrentNotePriority :=
  fun i s => ⟨_, exec_eq_latched i s, fun _ h => latched_curNote_of_entry h s.pins,
    fun h => latched_curNote_of_no_entry h s.pins⟩

/-- Settles O8: each component of the next state is one of the edge's equations. -/
theorem clockEdgeMovesTheEnvironment : Obligations.ClockEdgeMovesTheEnvironment :=
  fun _ _ => ⟨rfl, rfl, rfl, fun _ _ h => nextPins_cons h, fun h => if_pos h, advance_regs_of_reset⟩

/-- Settles O10: the edge of a reset cycle or of the presented command; otherwise the refusal. -/
theorem stepIsTotalOnLegalParameters : Obligations.StepIsTotalOnLegalParameters := by
  refine fun s => ⟨fun hl => ?_, step_of_illegal⟩
  cases hr : s.pins.rstN with
  | false => exact ⟨_, step_of_reset hl hr⟩
  | true => exact ⟨_, step_of_running hl hr⟩

/-- Settles O14: a reset cycle latches the reset values, and every edge into one leaves them (O13). -/
theorem resetOverridesEveryState : Obligations.ResetOverridesEveryState := by
  obtain ⟨-, hheld, -⟩ := resetValuesOfEveryRegister
  exact ⟨fun _ => step_of_reset, hheld⟩

end Sys2Proof.Machine
end

section
/-! PROOFS. The statement from 41_bus_arbiter.md: the link frame bit by bit, and from it that the note encoder and the note
decoder are inverse. -/

namespace Sys2Proof.Machine

/-! ### The link frame, bit by bit (30_encoding.md R61, 41_bus_arbiter.md R80, R81) -/

@[simp] theorem triggerBit_encodeNote (n : Note) : triggerBit (encodeNote n) = true := by
  rw [triggerBit, encodeNote, BitVec.getLsbD_append, BitVec.getLsbD_append]
  simp

theorem getLsbD_encodeNote_six (n : Note) : (encodeNote n).getLsbD 6 = n.getLsbD 5 := by
  rw [encodeNote, BitVec.getLsbD_append, BitVec.getLsbD_append]
  simp

theorem getLsbD_encodeNote_low (n : Note) {k : Nat} (hk : k < 5) : (encodeNote n).getLsbD k = n.getLsbD k := by
  rw [encodeNote, BitVec.getLsbD_append]
  simp [hk]

theorem getLsbD_decodeNote_five (l : Lines) : (decodeNote l).getLsbD 5 = l.getLsbD 6 := by
  rw [decodeNote, BitVec.getLsbD_append]
  simp

theorem getLsbD_decodeNote_low (l : Lines) {k : Nat} (hk : k < 5) : (decodeNote l).getLsbD k = l.getLsbD k := by
  rw [decodeNote, BitVec.getLsbD_append]
  simp [hk]

/-- The bits of a note that the frame carries on `L[6]` and on `L[4:0]` determine it. -/
theorem note_ext {m n : Note} (hhigh : m.getLsbD 5 = n.getLsbD 5) (hlow : ∀ k < 5, m.getLsbD k = n.getLsbD k) :
    m = n := by
  refine BitVec.eq_of_getLsbD_eq fun k hk => ?_
  obtain h | rfl : k < 5 ∨ k = 5 := by omega
  · exact hlow k h
  · exact hhigh

/-- The trigger, `L[6]` and `L[4:0]` determine a line pattern. -/
theorem lines_ext {l l' : Lines} (htrig : triggerBit l = triggerBit l') (hhigh : l.getLsbD 6 = l'.getLsbD 6)
    (hlow : ∀ k < 5, l.getLsbD k = l'.getLsbD k) : l = l' := by
  refine BitVec.eq_of_getLsbD_eq fun k hk => ?_
  obtain h | rfl | rfl : k < 5 ∨ k = 5 ∨ k = 6 := by omega
  · exact hlow k h
  · exact htrig
  · exact hhigh

/-! ### The two round trips, and the trigger line ignored (41_bus_arbiter.md R81, R82) -/

@[simp] theorem decodeNote_encodeNote (n : Note) : decodeNote (encodeNote n) = n :=
  note_ext (by rw [getLsbD_decodeNote_five, getLsbD_encodeNote_six])
    fun _ hk => by rw [getLsbD_decodeNote_low _ hk, getLsbD_encodeNote_low _ hk]

theorem encodeNote_decodeNote {l : Lines} (h : triggerBit l = true) : encodeNote (decodeNote l) = l :=
  lines_ext (by rw [triggerBit_encodeNote, h]) (by rw [getLsbD_encodeNote_six, getLsbD_decodeNote_five])
    fun _ hk => by rw [getLsbD_encodeNote_low _ hk, getLsbD_decodeNote_low _ hk]

theorem decodeNote_congr {l l' : Lines} (hhigh : l.getLsbD 6 = l'.getLsbD 6)
    (hlow : ∀ k < 5, l.getLsbD k = l'.getLsbD k) : decodeNote l = decodeNote l' :=
  note_ext (by rw [getLsbD_decodeNote_five, getLsbD_decodeNote_five, hhigh])
    fun k hk => by rw [getLsbD_decodeNote_low _ hk, getLsbD_decodeNote_low _ hk, hlow k hk]

theorem getLsbD_xor_trigger_of_ne (l : Lines) {k : Nat} (hk : k ≠ 5) :
    (l ^^^ 0b0100000#7).getLsbD k = l.getLsbD k := by
  have hmask : (0b0100000#7).getLsbD k = false := by
    rw [show 0b0100000#7 = BitVec.twoPow 7 5 from rfl, BitVec.getLsbD_twoPow]
    simp [hk.symm]
  rw [BitVec.getLsbD_xor, hmask, Bool.xor_false]

theorem decodeNote_xor_trigger (l : Lines) : decodeNote (l ^^^ 0b0100000#7) = decodeNote l :=
  decodeNote_congr (getLsbD_xor_trigger_of_ne l (by decide)) fun _ hk => getLsbD_xor_trigger_of_ne l hk.ne

/-! ### The obligation -/

/-- Settles O6: the frame's bits, and from them the two round trips. -/
theorem noteEncoderAndDecoderAreInverse : Obligations.NoteEncoderAndDecoderAreInverse :=
  ⟨fun n => ⟨triggerBit_encodeNote n, getLsbD_encodeNote_six n, fun _ => getLsbD_encodeNote_low n,
      decodeNote_encodeNote n⟩,
    fun l => ⟨getLsbD_decodeNote_five l, fun _ => getLsbD_decodeNote_low l, decodeNote_xor_trigger l,
      encodeNote_decodeNote⟩⟩

end Sys2Proof.Machine
end

section
/-! PROOFS. The statements from 42_read_path.md: the capture condition, one cycle of the Read Path, what the Write Path
reads, and runs of cycles without reset. -/

namespace Sys2Proof.Machine

variable {p : Params}

/-! ### The capture condition (42_read_path.md R90 to R93) -/

theorem supD_eq_zero_iff (v : BitVec 2) : v = 0#2 ↔ v.getLsbD 0 = false ∧ v.getLsbD 1 = false := by
  refine ⟨fun h => by simp [h], fun ⟨h0, h1⟩ => BitVec.eq_of_getLsbD_eq fun k hk => ?_⟩
  obtain rfl | rfl : k = 0 ∨ k = 1 := by omega
  · simpa using h0
  · simpa using h1

/-- The capture condition with the guard written out. -/
theorem captureNow_iff_registers (r : Regs p) :
    captureNow r = true ↔
      r.sync2.getLsbD 5 = true ∧ r.trigPrev = false ∧ r.sup = false ∧ r.supD = 0#2 ∧ r.pending = false := by
  rw [captureNow_iff, guardActive_eq_false_iff, supD_eq_zero_iff, triggerBit]
  simp only [and_assoc]

theorem triggerEdge_iff (r : Regs p) : triggerEdge r = true ↔ triggerBit r.sync2 = true ∧ r.trigPrev = false := by
  simp [triggerEdge]

/-- A low trigger sample makes no edge. -/
theorem captureNow_of_trigger_low {r : Regs p} (h : triggerBit r.sync2 = false) : captureNow r = false := by
  simp [captureNow, triggerEdge, h]

theorem captureNow_of_prev_high {r : Regs p} (h : r.trigPrev = true) : captureNow r = false := by
  simp [captureNow, triggerEdge, h]

theorem captureNow_of_guard {r : Regs p} (h : guardActive r = true) : captureNow r = false := by
  simp [captureNow, h]

theorem captureNow_of_pending {r : Regs p} (h : r.pending = true) : captureNow r = false := by
  simp [captureNow, h]

/-! ### The registers without the edge (42_read_path.md R93) -/

/-- The registers with the previous trigger sample high, so that no edge is seen. -/
def Regs.withoutEdge (r : Regs p) : Regs p := { r with trigPrev := true }

theorem captureNow_withoutEdge (r : Regs p) : captureNow r.withoutEdge = false := captureNow_of_prev_high rfl

/-- Where no capture is made, the every-cycle rules go as without an edge: `TRIG_PREV` takes `SYNC2`'s trigger either
way. -/
theorem everyCycle_withoutEdge {r : Regs p} (h : captureNow r = false) (io : Inputs p) :
    everyCycle r.withoutEdge io = everyCycle r io := by
  unfold everyCycle capture
  rw [captureNow_withoutEdge, h]
  rfl

theorem consumeTrigger_withoutEdge {r : Regs p} (h : captureNow r = false) (n : Regs p) :
    consumeTrigger r.withoutEdge n = consumeTrigger r n := by
  unfold consumeTrigger
  rw [captureNow_withoutEdge, h]

/-- The Write Path reads no trigger sample. -/
theorem advanceWritePath_withoutEdge (r n : Regs p) : advanceWritePath r.withoutEdge n = advanceWritePath r n := rfl

theorem doWrite_withoutEdge (r n : Regs p) (note : BitVec 8) (dur : Nat) :
    doWrite r.withoutEdge n note dur = doWrite r n note dur := rfl

/-- Where no capture is made, the whole cycle goes as without an edge, whatever the command. -/
theorem latched_withoutEdge {r : Regs p} (h : captureNow r = false) (i : Instr) (io : Inputs p) :
    latched i r.withoutEdge io = latched i r io := by
  have he := everyCycle_withoutEdge h io
  cases i with
  | write note dur => simp only [latched, he, doWrite_withoutEdge]
  | nop | rsvd6 | rsvd7 => simp only [latched, he, advanceWritePath_withoutEdge]
  | read | isplay | isread => simp only [latched, he, advanceWritePath_withoutEdge]; rfl
  | istrig => simp only [latched, he, advanceWritePath_withoutEdge, consumeTrigger_withoutEdge h]; rfl

/-! ### One cycle of the Read Path (42_read_path.md R94 to R96, R99) -/

theorem latched_triggered_iff (i : Instr) (r : Regs p) (io : Inputs p) :
    (latched i r io).triggered = true ↔ captureNow r = true ∨ (r.triggered = true ∧ i ≠ .istrig) := by
  rw [latched_triggered, Bool.or_eq_true, Bool.and_eq_true, decide_eq_true_iff]

/-- What a capture writes, whatever the command (42_read_path.md R92). -/
theorem latched_of_capture (i : Instr) {r : Regs p} (h : captureNow r = true) (io : Inputs p) :
    (latched i r io).pending = true ∧ (latched i r io).triggered = true ∧
      (latched i r io).capNote = decodeNote r.sync2 ∧ (latched i r io).capTime = r.now := by
  simp [h, latched_triggered]

/-- What the sync writes, whatever the command, but for `CURNOTE`. No capture is made over a pending one. -/
theorem latched_of_sync (i : Instr) {r : Regs p} (h : r.pending = true) (io : Inputs p) :
    (latched i r io).pending = false ∧ (latched i r io).reading = true ∧ (latched i r io).relStamp = r.now := by
  simp [h, captureNow_of_pending h]

/-- ISTRIG answers the pre-edge latch. -/
theorem latched_istrig_rsp (r : Regs p) (io : Inputs p) :
    (latched .istrig r io).rsp = if r.triggered then 0x01#8 else 0x00#8 := by
  cases h : r.triggered <;> simp [latched, istrigResponse, h]

/-- Without a sync `READING` goes only when the release timer exceeds `T_REL`. -/
theorem latched_reading_iff (i : Instr) {r : Regs p} (h : r.pending = false) (io : Inputs p) :
    (latched i r io).reading = true ↔ r.reading = true ∧ (elapsed r r.relStamp).toNat ≤ p.tRel := by
  rw [latched_reading, h, Bool.false_or, Bool.and_eq_true, Bool.not_eq_true', ← Bool.not_eq_true, releaseOver_iff,
    Nat.not_lt]

/-- `T_REL` + 1 is below the wrap (00_scope.md R7). -/
theorem tRel_succ_lt_of_legal (hl : p.legal = true) : p.tRel + 1 < 2 ^ p.wT := by
  obtain ⟨⟨⟨hwT, -⟩, -, -, hrel⟩, -⟩ := (legal_iff p).mp hl
  have hpow : 2 ^ 8 ≤ 2 ^ p.wT := Nat.pow_le_pow_right (by decide) hwT
  omega

/-- A sync restarts the release timer. -/
theorem latched_releaseTimer_of_sync (i : Instr) {r : Regs p} (hl : p.legal = true) (h : r.pending = true)
    (io : Inputs p) : (elapsed (latched i r io) (latched i r io).relStamp).toNat = io.tick.toNat := by
  have hwrap := tRel_succ_lt_of_legal hl
  have htick := io.tick.toNat_le
  obtain ⟨-, -, hstamp⟩ := latched_of_sync i h io
  rw [hstamp, elapsed, latched_now, elapsed_of_reset_timer, Nat.mod_eq_of_lt (by omega)]

/-- Without a sync a release timer that is not over counts the cycle's tick. -/
theorem latched_releaseTimer (i : Instr) {r : Regs p} (hl : p.legal = true) (h : r.pending = false)
    (hle : (elapsed r r.relStamp).toNat ≤ p.tRel) (io : Inputs p) :
    (elapsed (latched i r io) (latched i r io).relStamp).toNat = (elapsed r r.relStamp).toNat + io.tick.toNat := by
  have hwrap := tRel_succ_lt_of_legal hl
  have htick := io.tick.toNat_le
  rw [latched_relStamp, h, if_neg Bool.false_ne_true, elapsed, latched_now]
  exact elapsed_counts_tick _ _ _ (by unfold elapsed at hle; omega)

/-- A capture saw a high trigger sample, which is the next previous one, and set the latch in the same cycle. -/
theorem latched_mailboxInv (i : Instr) (r : Regs p) (io : Inputs p) : (latched i r io).MailboxInv where
  prev_high h := by
    rw [latched_pending] at h
    rw [latched_trigPrev]
    exact ((captureNow_iff r).mp h).1
  latched h := by
    rw [latched_pending] at h
    exact (latched_triggered_iff i r io).mpr (.inl h)

/-- While a capture is unconsumed the previous trigger sample is high, so no edge is seen. -/
theorem Regs.MailboxInv.pending_of_edge {r : Regs p} (h : r.MailboxInv) (hedge : triggerEdge r = true) :
    r.pending = false := by
  obtain ⟨-, hprev⟩ := (triggerEdge_iff r).mp hedge
  refine Bool.eq_false_iff.mpr fun hpend => ?_
  rw [h.prev_high hpend] at hprev
  cases hprev

/-! ### What the Write Path reads (42_read_path.md R100) -/

namespace Regs.AgreeOnWritePath

variable {r r' n n' : Regs p}

/-- The every-cycle rules write of these registers `NOW` alone, by the tick. -/
theorem everyCycle (h : AgreeOnWritePath r r') {io io' : Inputs p} (htick : io'.tick = io.tick) :
    AgreeOnWritePath (Machine.everyCycle r io) (Machine.everyCycle r' io') := by
  obtain ⟨hnow, hw, hsup, hout, hnote, hdur, hns, hps⟩ := h
  constructor <;> simpa [htick]

/-- The trigger latch and the response register are no part of the Write Path. -/
theorem withAnswer (h : AgreeOnWritePath n n') (trig trig' : Bool) (v v' : Response) (b b' : Bool) :
    AgreeOnWritePath { n with triggered := trig, rsp := v, rspValid := b }
      { n' with triggered := trig', rsp := v', rspValid := b' } :=
  ⟨h.now, h.wstate, h.sup, h.out, h.wNote, h.wDur, h.noteStamp, h.pulseStamp⟩

theorem enterPulseOn (h : AgreeOnWritePath r r') (hn : AgreeOnWritePath n n') (m : Note) :
    AgreeOnWritePath (Machine.enterPulseOn r n m) (Machine.enterPulseOn r' n' m) :=
  ⟨hn.now, rfl, rfl, rfl, hn.wNote, hn.wDur, hn.noteStamp, h.now⟩

theorem enterPulseOff (h : AgreeOnWritePath r r') (hn : AgreeOnWritePath n n') :
    AgreeOnWritePath (Machine.enterPulseOff r n) (Machine.enterPulseOff r' n') :=
  ⟨hn.now, rfl, rfl, rfl, hn.wNote, hn.wDur, hn.noteStamp, h.now⟩

theorem enterRestWait (hn : AgreeOnWritePath n n') :
    AgreeOnWritePath (Machine.enterRestWait n) (Machine.enterRestWait n') :=
  ⟨hn.now, rfl, rfl, rfl, hn.wNote, hn.wDur, hn.noteStamp, hn.pulseStamp⟩

theorem enterDone (hn : AgreeOnWritePath n n') : AgreeOnWritePath (Machine.enterDone n) (Machine.enterDone n') :=
  ⟨hn.now, rfl, hn.sup, hn.out, hn.wNote, hn.wDur, hn.noteStamp, hn.pulseStamp⟩

theorem loadRequest (h : AgreeOnWritePath r r') (hn : AgreeOnWritePath n n') (note : BitVec 8) (dur : Nat) :
    AgreeOnWritePath (Machine.loadRequest r n note dur) (Machine.loadRequest r' n' note dur) :=
  ⟨hn.now, hn.wstate, hn.sup, hn.out, rfl, rfl, h.now, h.now⟩

theorem doWrite (h : AgreeOnWritePath r r') (hn : AgreeOnWritePath n n') (note : BitVec 8) (dur : Nat) :
    AgreeOnWritePath (Machine.doWrite r n note dur) (Machine.doWrite r' n' note dur) := by
  unfold Machine.doWrite
  split
  · exact h.enterPulseOn (h.loadRequest hn note dur) _
  · exact (h.loadRequest hn note dur).enterRestWait

/-- The Write Path's own transition decides on its state and its timers. -/
theorem advanceWritePath (h : AgreeOnWritePath r r') (hn : AgreeOnWritePath n n') :
    AgreeOnWritePath (Machine.advanceWritePath r n) (Machine.advanceWritePath r' n') := by
  have hpulse : elapsed r' r'.pulseStamp = elapsed r r.pulseStamp := by simp only [elapsed, h.now, h.pulseStamp]
  have hnote : elapsed r' r'.noteStamp = elapsed r r.noteStamp := by simp only [elapsed, h.now, h.noteStamp]
  have hon : pulseOnOver r' = pulseOnOver r := by rw [pulseOnOver, exceeds, hpulse]; rfl
  have hoff : pulseOffOver r' = pulseOffOver r := by rw [pulseOffOver, exceeds, hpulse]; rfl
  have hdur : durationReached r' = durationReached r := by rw [durationReached, hnote, h.wDur]; rfl
  unfold Machine.advanceWritePath
  rw [h.wstate, hon, hoff, hdur, h.wNote]
  cases r.wstate with
  | done => exact hn
  | pulseOn =>
    cases pulseOnOver r with
    | true => exact h.enterPulseOff hn
    | false => exact hn
  | pulseOff =>
    cases pulseOffOver r with
    | true =>
      cases durationReached r with
      | true => exact hn.enterDone
      | false => exact h.enterPulseOn hn _
    | false => exact hn
  | restWait =>
    cases durationReached r with
    | true => exact hn.enterDone
    | false => exact hn

/-- A whole cycle, whatever the command. -/
theorem latched (h : AgreeOnWritePath r r') {io io' : Inputs p} (htick : io'.tick = io.tick) (i : Instr) :
    AgreeOnWritePath (Machine.latched i r io) (Machine.latched i r' io') := by
  have he := h.everyCycle htick
  cases hi : i.isWrite with
  | true =>
    obtain ⟨note, dur, rfl⟩ := isWrite_iff_eq_write.mp hi
    exact h.doWrite (he.withAnswer ..) note dur
  | false =>
    rw [latched_of_not_write hi r io, latched_of_not_write hi r' io']
    exact h.advanceWritePath (he.withAnswer ..)

end Regs.AgreeOnWritePath

/-! ### Runs without reset -/

/-- The state after a cycle with `rst_n` = 1. -/
def State.afterCommand (s : State) : State := s.advance (latched (decode s.cfg s.pins.commandWord) s.regs s.pins)

theorem State.afterCommand_tRel (s : State) : s.afterCommand.cfg.tRel = s.cfg.tRel := rfl

/-- At legal parameters, this cycle and the `k` that follow are listed and none has `rst_n` = 0. -/
structure State.RunsFor (s : State) (k : Nat) : Prop where
  legal : s.cfg.legal = true
  scheduled : k ≤ s.sched.length
  noReset : NoReset (s.inputs.take (k + 1))

namespace State.RunsFor

variable {s : State} {k : Nat}

theorem of_sched (hl : s.cfg.legal = true) (hr : s.pins.rstN = true) (hk : k ≤ s.sched.length)
    (hn : NoReset (s.sched.take k)) : s.RunsFor k :=
  ⟨hl, hk, List.forall_mem_cons.mpr ⟨hr, hn⟩⟩

theorem step (h : s.RunsFor k) : Machine.step s = .next s.afterCommand :=
  step_of_running h.legal (h.noReset _ List.mem_cons_self)

/-- The listed inputs arrive one by one. -/
theorem inputs_afterCommand (h : s.RunsFor (k + 1)) : s.afterCommand.inputs = s.sched := by
  obtain ⟨io, ios, hs⟩ := List.exists_cons_of_length_pos (Nat.zero_lt_of_lt h.scheduled)
  change s.nextPins :: s.sched.tail = s.sched
  rw [nextPins_cons hs, hs, List.tail_cons]

theorem afterCommand (h : s.RunsFor (k + 1)) : s.afterCommand.RunsFor k where
  legal := h.legal
  scheduled := by
    have hk := h.scheduled
    change k ≤ s.sched.tail.length
    rw [List.length_tail]
    omega
  noReset := by
    rw [h.inputs_afterCommand]
    exact (List.forall_mem_cons.mp h.noReset).2

theorem tickCount_take_succ (h : s.RunsFor (k + 1)) (j : Nat) :
    tickCount (s.inputs.take (j + 1)) = s.pins.tick.toNat + tickCount (s.afterCommand.inputs.take j) := by
  rw [h.inputs_afterCommand]
  rfl

/-- The next cycle has `rst_n` = 1 too, so its registers are those that the edge latched. -/
theorem regs_afterCommand (h : s.RunsFor (k + 1)) :
    s.afterCommand.regs = latched (decode s.cfg s.pins.commandWord) s.regs s.pins :=
  if_pos (h.afterCommand.noReset _ List.mem_cons_self)

/-- A run's first cycle, peeled off. -/
theorem run_afterCommand (h : s.RunsFor k) (n : Nat) :
    Host.Core.run core (n + 1) s = Host.Core.run core n s.afterCommand := run_of_step n h.step

theorem run_eq_iterate (h : s.RunsFor k) {n : Nat} (hn : n ≤ k) :
    Host.Core.run core n s = .next (State.afterCommand^[n] s) := by
  induction n generalizing s k with
  | zero => exact run_zero s
  | succ n ih =>
    obtain ⟨m, rfl⟩ := Nat.exists_eq_add_one.mpr (Nat.zero_lt_of_lt hn)
    rw [h.run_afterCommand, ih h.afterCommand (Nat.le_of_succ_le_succ hn), Function.iterate_succ_apply]

/-- A sample of the lines is in the second stage of the synchroniser two cycles later (42_read_path.md R98). -/
theorem sync2_after_two (h : s.RunsFor (k + 2)) : s.afterCommand.afterCommand.regs.sync2 = s.pins.linkIn := by
  rw [h.afterCommand.regs_afterCommand, latched_sync2, h.regs_afterCommand, latched_sync1]

/-- A low sample and then a high one make an edge two cycles after the high one's, and find no capture pending: in the
cycle before, the low sample made no edge. -/
theorem edge_after_three (h : s.RunsFor (k + 3)) (hlow : triggerBit s.pins.linkIn = false)
    (hhigh : triggerBit s.afterCommand.pins.linkIn = true) :
    triggerEdge s.afterCommand.afterCommand.afterCommand.regs = true ∧
      s.afterCommand.afterCommand.afterCommand.regs.pending = false := by
  have hsync := h.sync2_after_two
  rw [triggerEdge_iff, h.afterCommand.sync2_after_two, h.afterCommand.afterCommand.regs_afterCommand, latched_trigPrev,
    latched_pending, hsync]
  exact ⟨⟨hhigh, hlow⟩, captureNow_of_trigger_low (by rw [hsync, hlow])⟩

/-- The cycle after a capture holds it (42_read_path.md R92). -/
theorem capture_afterCommand (h : s.RunsFor (k + 1)) (hcap : captureNow s.regs = true) :
    s.afterCommand.regs.pending = true ∧ s.afterCommand.regs.triggered = true ∧
      s.afterCommand.regs.capNote = decodeNote s.regs.sync2 ∧
      s.afterCommand.regs.capTime.toNat = s.regs.now.toNat := by
  rw [h.regs_afterCommand]
  obtain ⟨hpend, htrig, hnote, htime⟩ := latched_of_capture (decode s.cfg s.pins.commandWord) hcap s.pins
  exact ⟨hpend, htrig, hnote, congrArg _ htime⟩

/-- The cycle after a pending capture's has it delivered (42_read_path.md R94). -/
theorem sync_afterCommand (h : s.RunsFor (k + 1)) (hp : s.regs.pending = true) :
    s.afterCommand.regs.pending = false ∧ s.afterCommand.regs.reading = true ∧
      s.afterCommand.regs.relStamp.toNat = s.regs.now.toNat ∧
      ((∀ n, ¬PulseOnEntry s.regs (decode s.cfg s.pins.commandWord) n) →
        s.afterCommand.regs.curNote = s.regs.capNote) := by
  rw [h.regs_afterCommand]
  obtain ⟨hclear, hread, hstamp⟩ := latched_of_sync (decode s.cfg s.pins.commandWord) hp s.pins
  exact ⟨hclear, hread, congrArg _ hstamp, fun hentry => by rw [latched_curNote_of_no_entry hentry, if_pos hp]⟩

/-- `READING` after a cycle without a sync (42_read_path.md R95). -/
theorem reading_afterCommand (h : s.RunsFor (k + 1)) (hp : s.regs.pending = false) :
    s.afterCommand.regs.reading = true ↔
      s.regs.reading = true ∧ (elapsed s.regs s.regs.relStamp).toNat ≤ s.cfg.tRel := by
  rw [h.regs_afterCommand, latched_reading_iff _ hp]

end State.RunsFor

/-- Over a stretch without a capture the trigger latch stays 0 (42_read_path.md R97). -/
theorem run_triggered_of_no_capture {s : State} {k : Nat} (h : s.RunsFor k)
    (hcap : ∀ j < k, ∀ t : State, Host.Core.run core j s = .next t → captureNow t.regs = false)
    (htrig : s.regs.triggered = false) :
    ∃ t, Host.Core.run core k s = .next t ∧ t.regs.triggered = false := by
  induction k generalizing s with
  | zero => exact ⟨s, run_zero s, htrig⟩
  | succ k ih =>
    rw [h.run_afterCommand]
    refine ih h.afterCommand (fun j hj t ht => hcap (j + 1) (by omega) t (by rwa [h.run_afterCommand])) ?_
    rw [h.regs_afterCommand, latched_triggered, hcap 0 k.succ_pos s (run_zero s), htrig]
    rfl

/-- Over a stretch without a sync `READING` stays until the release timer and the ticks that come exceed `T_REL`
(42_read_path.md R95, R101). Once it is 0 the timer is not read again, so its wrap does not matter. -/
theorem run_reading_of_no_sync {s : State} {j : Nat} (h : s.RunsFor (j + 1))
    (hpend : ∀ k ≤ j, ∀ t : State, Host.Core.run core k s = .next t → t.regs.pending = false) :
    ∃ t, Host.Core.run core (j + 1) s = .next t ∧
      (t.regs.reading = true ↔ s.regs.reading = true ∧
        (elapsed s.regs s.regs.relStamp).toNat + tickCount (s.inputs.take j) ≤ s.cfg.tRel) := by
  induction j generalizing s with
  | zero => exact ⟨s.afterCommand, h.run_afterCommand 0, h.reading_afterCommand (hpend 0 le_rfl s (run_zero s))⟩
  | succ j ih =>
    have hp : s.regs.pending = false := hpend 0 (by omega) s (run_zero s)
    obtain ⟨t, hrun, ht⟩ := ih h.afterCommand
      fun k hk t ht => hpend (k + 1) (by omega) t (by rwa [h.run_afterCommand])
    refine ⟨t, by rwa [h.run_afterCommand], ?_⟩
    rw [ht, h.reading_afterCommand hp, h.tickCount_take_succ, State.afterCommand_tRel]
    by_cases hle : (elapsed s.regs s.regs.relStamp).toNat ≤ s.cfg.tRel
    · have htimer : (elapsed s.afterCommand.regs s.afterCommand.regs.relStamp).toNat =
          (elapsed s.regs s.regs.relStamp).toNat + s.pins.tick.toNat := by
        rw [h.regs_afterCommand]
        exact latched_releaseTimer _ h.legal hp hle s.pins
      rw [htimer, and_iff_left hle, Nat.add_assoc]
    · have hover : ¬(elapsed s.regs s.regs.relStamp).toNat +
          (s.pins.tick.toNat + tickCount (s.afterCommand.inputs.take j)) ≤ s.cfg.tRel := by omega
      simp only [hle, hover, and_false, false_and]

/-! ### The obligations -/

/-- Settles O18: the condition is `captureNow`; every command latches `PENDING`, `CAPNOTE` and `CAPTIME` by it, and only
ISTRIG may clear `TRIGGERED` without it. -/
theorem captureFillsTheMailbox : Obligations.CaptureFillsTheMailbox := by
  refine fun i s => ⟨_, exec_eq_latched i s, fun hcap => ?_, fun hcap => ?_⟩
  · have hc : captureNow s.regs = true := (captureNow_iff_registers _).mpr hcap
    obtain ⟨hpend, htrig, hnote, htime⟩ := latched_of_capture i hc s.pins
    exact ⟨hnote, htime, htrig, hpend⟩
  · have hc : captureNow s.regs = false := Bool.eq_false_iff.mpr fun h => hcap ((captureNow_iff_registers _).mp h)
    exact ⟨by simp [hc], by simp [hc], by rw [latched_pending, hc], fun hi => by simp [latched_triggered, hc, hi]⟩

/-- Settles O19: an edge under the guard or over an unconsumed capture makes no capture, and a cycle without a capture
goes as one without an edge. -/
theorem lostEdgeChangesNothing : Obligations.LostEdgeChangesNothing := by
  intro i s _ hlost
  have hc : captureNow s.regs = false := by
    have hmasked : guardActive s.regs = true ∨ s.regs.pending = true := by simpa [guardActive, or_assoc] using hlost
    exact hmasked.elim captureNow_of_guard captureNow_of_pending
  refine ⟨_, exec_eq_latched i s, ?_⟩
  rw [← latched_withoutEdge hc]
  exact exec_eq_latched i { s with regs := s.regs.withoutEdge }

/-- Settles O20: no capture is made over a pending one, so `PENDING` clears; `CURNOTE` goes by its writers' priority. -/
theorem syncDeliversTheCapture : Obligations.SyncDeliversTheCapture := by
  intro i s hp
  obtain ⟨hpend, hread, hstamp⟩ := latched_of_sync i hp s.pins
  refine ⟨_, exec_eq_latched i s, hread, hstamp, hpend, fun _ h => latched_curNote_of_entry h s.pins, fun h => ?_⟩
  rw [latched_curNote_of_no_entry h s.pins, if_pos hp]

/-- Settles O21: `READING` is what the release leaves, and only the sync writes `REL_STAMP`. -/
theorem releaseClearsReadingAfterHysteresis : Obligations.ReleaseClearsReadingAfterHysteresis :=
  fun i s hp => ⟨_, exec_eq_latched i s, by simp [hp], latched_reading_iff i hp s.pins⟩

/-- Settles O23: the capture's set or the latch that ISTRIG did not consume. -/
theorem triggerLatchSetWinsOverConsume : Obligations.TriggerLatchSetWinsOverConsume :=
  fun i s => ⟨_, exec_eq_latched i s, latched_triggered_iff i s.regs s.pins⟩

/-- Settles O39: the mailbox invariant holds of whatever a cycle latches, and of the reset registers. -/
theorem edgeNeverMeetsAnUnconsumedCapture : Obligations.EdgeNeverMeetsAnUnconsumedCapture :=
  ⟨fun _ _ h => h.pending_of_edge, fun _ _ hs hstep =>
    step_keeps_of_latched reset_mailboxInv (fun i r io _ => latched_mailboxInv i r io) hs hstep⟩

/-- Settles O44: both cycles take the same way through the Write Path, which decides on its own registers and `NOW`. -/
theorem receivingHasNoEffectOnTheWritePath : Obligations.ReceivingHasNoEffectOnTheWritePath :=
  fun i _ _ _ _ _ _ _ _ _ h htick => ⟨_, _, exec_eq_latched i _, exec_eq_latched i _, h.latched htick i⟩

/-- Settles O48: the sync sets `READING` and restarts the release timer, and the rest is a stretch without a sync. -/
theorem readingLastsTheHysteresis : Obligations.ReadingLastsTheHysteresis := by
  intro s j hl hr hp hj hn hnosync
  have h : s.RunsFor (j + 1) := .of_sched hl hr hj hn
  obtain ⟨-, hread, -⟩ := h.sync_afterCommand hp
  rw [h.run_afterCommand]
  cases j with
  | zero => exact ⟨s.afterCommand, run_zero _, by simp [hread, tickCount]⟩
  | succ j =>
    obtain ⟨t, hrun, ht⟩ := run_reading_of_no_sync h.afterCommand
      fun k hk t ht => hnosync (k + 1) (by omega) (by omega) t (by rwa [h.run_afterCommand])
    have htimer : (elapsed s.afterCommand.regs s.afterCommand.regs.relStamp).toNat = s.pins.tick.toNat := by
      rw [h.regs_afterCommand]
      exact latched_releaseTimer_of_sync _ hl hp s.pins
    refine ⟨t, hrun, ?_⟩
    rw [ht, and_iff_right hread, htimer, h.tickCount_take_succ, State.afterCommand_tRel]

/-- Settles O50: the two samples move through the synchroniser and make the edge, which finds no capture pending; the
capture is followed by its sync. -/
theorem receivedNoteLatency : Obligations.ReceivedNoteLatency := by
  intro p r io0 io1 io2 io3 io4 io5 rest c hl hn hlow hhigh s
  have h0 : s.RunsFor 5 := ⟨hl, Nat.le_add_left 5 rest.length, hn⟩
  have h3 : s.afterCommand.afterCommand.afterCommand.RunsFor 2 := h0.afterCommand.afterCommand.afterCommand
  let t3 := s.afterCommand.afterCommand.afterCommand
  let t4 := t3.afterCommand
  obtain ⟨hedge, hempty⟩ : triggerEdge t3.regs = true ∧ t3.regs.pending = false := h0.edge_after_three hlow hhigh
  refine ⟨t3, t4, t4.afterCommand, h0.run_eq_iterate (by decide), h0.run_eq_iterate (by decide),
    h0.run_eq_iterate le_rfl, hedge, fun hguard => ?_⟩
  have hsync : t3.regs.sync2 = io1.linkIn := h0.afterCommand.sync2_after_two
  have hcap : captureNow t3.regs = true := by simp [captureNow, hedge, hguard, hempty]
  obtain ⟨hpend, htrig, hnote, htime⟩ : t4.regs.pending = true ∧ t4.regs.triggered = true ∧
    t4.regs.capNote = decodeNote t3.regs.sync2 ∧ t4.regs.capTime.toNat = t3.regs.now.toNat :=
    h3.capture_afterCommand hcap
  obtain ⟨hclear, hread, hstamp, hcur⟩ := h3.afterCommand.sync_afterCommand hpend
  rw [hsync] at hnote
  exact ⟨hpend, htrig, hnote, htime, hclear, hread, hstamp, fun hentry => (hcur hentry).trans hnote⟩

/-- Settles O54: ISTRIG answers the latch and clears it, and without a capture it stays 0. -/
theorem triggerIsConsumedOnce : Obligations.TriggerIsConsumedOnce := by
  intro s k hl hr hcmd hk hn hcap
  have h : s.RunsFor (k + 1) := .of_sched hl hr hk hn
  have hi : decode s.cfg s.pins.commandWord = .istrig :=
    (decode_eq_iff_of_not_write rfl).mpr ((opField_commandWord s.pins).trans hcmd)
  have hregs : s.afterCommand.regs = latched .istrig s.regs s.pins := by rw [h.regs_afterCommand, hi]
  have htrig : s.afterCommand.regs.triggered = false := by
    rw [hregs, latched_triggered, hcap 0 k.zero_le s (run_zero s)]
    simp
  refine ⟨⟨s.afterCommand, h.run_afterCommand 0, ?_, ?_⟩, ?_⟩
  · rw [hregs, latched_rspValid]; rfl
  · rw [hregs, latched_istrig_rsp]
  · obtain ⟨t, hrun, ht⟩ := run_triggered_of_no_capture h.afterCommand
      (fun j hj t ht => hcap (j + 1) hj t (by rwa [h.run_afterCommand])) htrig
    refine ⟨t, by rwa [h.run_afterCommand], ht, _, exec_eq_latched .istrig t, ?_,
      latched_rspValid .istrig t.regs t.pins⟩
    rw [latched_istrig_rsp, ht]
    rfl

end Sys2Proof.Machine
end

section
/-! PROOFS. The statements from 43_write_path.md: what one cycle does to the Write Path, its timers, and the runs that
follow a WRITE, for every pattern of ticks. -/

namespace Sys2Proof.Machine

variable {p : Params}

/-! ### A WRITE (43_write_path.md R113, 44_host_commands.md R127) -/

theorem latched_write_request (note : BitVec 8) (dur : Nat) (r : Regs p) (io : Inputs p) :
    (latched (.write note dur) r io).wNote = storedNote note ∧
      (latched (.write note dur) r io).wDur = storedDur p dur ∧
      (latched (.write note dur) r io).noteStamp = r.now ∧ (latched (.write note dur) r io).pulseStamp = r.now := by
  simp [latched]

theorem latched_write_note {note : BitVec 8} (h : note.toNat ≤ 48) (dur : Nat) (r : Regs p) (io : Inputs p) :
    (latched (.write note dur) r io).wstate = .pulseOn ∧ (latched (.write note dur) r io).sup = true ∧
      (latched (.write note dur) r io).out = encodeNote (storedNote note) := by
  simp [latched, (isPlayable_iff note).mpr h]

theorem latched_write_rest {note : BitVec 8} (h : 48 < note.toNat) (dur : Nat) (r : Regs p) (io : Inputs p) :
    (latched (.write note dur) r io).wstate = .restWait ∧ (latched (.write note dur) r io).sup = false ∧
      (latched (.write note dur) r io).out = 0b0000000#7 := by
  have hrest : isPlayable note = false := Bool.eq_false_iff.mpr (mt (isPlayable_iff note).mp (Nat.not_le.mpr h))
  simp [latched, hrest]

/-! ### What falls due in a cycle without a WRITE (43_write_path.md R108 to R111); the repeat is `repeatDue` -/

/-- The on-time of the pulse is over (R108). -/
def turnOffDue (r : Regs p) : Prop := r.wstate = .pulseOn ∧ p.tOn < (elapsed r r.pulseStamp).toNat

/-- The note or the rest is over (R109, R110). -/
def finishDue (r : Regs p) : Prop :=
  (r.wstate = .restWait ∨ r.wstate = .pulseOff ∧ p.tOff < (elapsed r r.pulseStamp).toNat) ∧
    r.wDur.toNat ≤ (elapsed r r.noteStamp).toNat

/-- The Write Path's state goes on (R108 to R111). -/
def phaseHolds (r : Regs p) : Prop :=
  (r.wstate = .pulseOn ∧ (elapsed r r.pulseStamp).toNat ≤ p.tOn) ∨
  (r.wstate = .pulseOff ∧ (elapsed r r.pulseStamp).toNat ≤ p.tOff) ∨
  (r.wstate = .restWait ∧ (elapsed r r.noteStamp).toNat < r.wDur.toNat) ∨ r.wstate = .done

theorem repeatDue_iff (r : Regs p) :
    repeatDue r ↔ r.wstate = .pulseOff ∧ p.tOff < (elapsed r r.pulseStamp).toNat ∧
      (elapsed r r.noteStamp).toNat < r.wDur.toNat := by
  rw [repeatDue, pulseOffOver_iff, ← Bool.not_eq_true, durationReached_iff, Nat.not_le]

/-- Nothing else can happen without a WRITE. -/
theorem due_cases (r : Regs p) : phaseHolds r ∨ turnOffDue r ∨ repeatDue r ∨ finishDue r := by
  cases hw : r.wstate with
  | done => exact .inl (.inr (.inr (.inr hw)))
  | restWait =>
    rcases Nat.lt_or_ge (elapsed r r.noteStamp).toNat r.wDur.toNat with hlt | hreached
    · exact .inl (.inr (.inr (.inl ⟨hw, hlt⟩)))
    · exact .inr (.inr (.inr ⟨.inl hw, hreached⟩))
  | pulseOn =>
    rcases Nat.lt_or_ge p.tOn (elapsed r r.pulseStamp).toNat with hover | hle
    · exact .inr (.inl ⟨hw, hover⟩)
    · exact .inl (.inl ⟨hw, hle⟩)
  | pulseOff =>
    rcases Nat.lt_or_ge p.tOff (elapsed r r.pulseStamp).toNat with hover | hle
    · rcases Nat.lt_or_ge (elapsed r r.noteStamp).toNat r.wDur.toNat with hlt | hreached
      · exact .inr (.inr (.inl ((repeatDue_iff r).mpr ⟨hw, hover, hlt⟩)))
      · exact .inr (.inr (.inr ⟨.inr ⟨hw, hover⟩, hreached⟩))
    · exact .inl (.inr (.inl ⟨hw, hle⟩))

theorem advanceWritePath_of_turnOffDue {r : Regs p} (h : turnOffDue r) (n : Regs p) :
    advanceWritePath r n = enterPulseOff r n := by
  obtain ⟨hw, hover⟩ := h
  simp [advanceWritePath, hw, (pulseOnOver_iff r).mpr hover]

theorem advanceWritePath_of_finishDue {r : Regs p} (h : finishDue r) (n : Regs p) :
    advanceWritePath r n = enterDone n := by
  obtain ⟨hw | ⟨hw, hover⟩, hreached⟩ := h
  · simp [advanceWritePath, hw, (durationReached_iff r).mpr hreached]
  · simp [advanceWritePath, hw, (pulseOffOver_iff r).mpr hover, (durationReached_iff r).mpr hreached]

theorem advanceWritePath_of_phaseHolds {r : Regs p} (h : phaseHolds r) (n : Regs p) : advanceWritePath r n = n := by
  obtain ⟨hw, hle⟩ | ⟨hw, hle⟩ | ⟨hw, hlt⟩ | hw := h
  · simp [advanceWritePath, hw, pulseOnOver_iff, Nat.not_lt.mpr hle]
  · simp [advanceWritePath, hw, pulseOffOver_iff, Nat.not_lt.mpr hle]
  · simp [advanceWritePath, hw, durationReached_iff, Nat.not_le.mpr hlt]
  · simp [advanceWritePath, hw]

section Cycle

variable {i : Instr} {r : Regs p} (hi : i.isWrite = false)
include hi

/-- The request is written by WRITE only. -/
theorem latched_request_of_not_write (io : Inputs p) :
    (latched i r io).wNote = r.wNote ∧ (latched i r io).wDur = r.wDur ∧ (latched i r io).noteStamp = r.noteStamp := by
  rw [latched_of_not_write hi]
  simp

theorem latched_of_turnOffDue (h : turnOffDue r) (io : Inputs p) :
    (latched i r io).wstate = .pulseOff ∧ (latched i r io).sup = false ∧ (latched i r io).out = 0b0000000#7 ∧
      (latched i r io).pulseStamp = r.now := by
  rw [latched_of_not_write hi, advanceWritePath_of_turnOffDue h]
  simp

theorem latched_of_repeatDue (h : repeatDue r) (io : Inputs p) :
    (latched i r io).wstate = .pulseOn ∧ (latched i r io).sup = true ∧ (latched i r io).out = encodeNote r.wNote ∧
      (latched i r io).pulseStamp = r.now ∧ (latched i r io).curNote = r.wNote := by
  rw [latched_of_not_write hi, advanceWritePath_of_repeatDue h]
  simp

theorem latched_of_finishDue (h : finishDue r) (io : Inputs p) :
    (latched i r io).wstate = .done ∧ (latched i r io).sup = r.sup ∧ (latched i r io).out = r.out ∧
      (latched i r io).pulseStamp = r.pulseStamp := by
  rw [latched_of_not_write hi, advanceWritePath_of_finishDue h]
  simp

theorem latched_of_phaseHolds (h : phaseHolds r) (io : Inputs p) :
    (latched i r io).wstate = r.wstate ∧ (latched i r io).sup = r.sup ∧ (latched i r io).out = r.out ∧
      (latched i r io).pulseStamp = r.pulseStamp := by
  rw [latched_of_not_write hi, advanceWritePath_of_phaseHolds h]
  simp

end Cycle

/-! ### The timers across a cycle (00_scope.md R11) -/

/-- A timer set in this cycle reads the cycle's tick in the next. -/
theorem latched_elapsed_of_set (hl : p.legal = true) (i : Instr) {r : Regs p} (io : Inputs p) {stamp : BitVec p.wT}
    (h : stamp = r.now) : (elapsed (latched i r io) stamp).toNat = io.tick.toNat := by
  have hwrap := tRel_succ_lt_of_legal hl
  have htick := io.tick.toNat_le
  rw [h, elapsed, latched_now, elapsed_of_reset_timer, Nat.mod_eq_of_lt (by omega)]

/-- A timer that is kept counts the cycle's tick, as long as it does not wrap. -/
theorem latched_elapsed_of_kept (i : Instr) (r : Regs p) (io : Inputs p) {stamp stamp' : BitVec p.wT}
    (h : stamp' = stamp) (hwrap : (elapsed r stamp).toNat + io.tick.toNat < 2 ^ p.wT) :
    (elapsed (latched i r io) stamp').toNat = (elapsed r stamp).toNat + io.tick.toNat := by
  rw [h, elapsed, latched_now]
  exact elapsed_counts_tick _ _ _ hwrap

/-! ### The command on the port -/

theorem decode_commandWord_of_write {io : Inputs p} (h : io.cmd = 0b001#3) :
    decode p io.commandWord = .write io.note io.dur.toNat :=
  decode_eq_write_iff.mpr
    ⟨(opField_commandWord io).trans h, noteField_packWord p _ _ _, congrArg _ (durField_packWord p _ _ _)⟩

theorem decode_commandWord_not_write {io : Inputs p} (h : io.cmd ≠ 0b001#3) :
    (decode p io.commandWord).isWrite = false := by
  rwa [← Bool.not_eq_true, decode_isWrite_iff, opField_commandWord]

/-! ### Runs without a WRITE -/

/-- `Inv u r` describes the registers `r` of a cycle, with `u` time units over since the WRITE. Every command but WRITE
latches from them the state that `wave` has at `u`, and registers that `Inv` describes in the next cycle. -/
structure Timeline (Inv : ∀ {p : Params}, Nat → Regs p → Prop) (wave : Params → Nat → WState) : Prop where
  cycle : ∀ {p : Params} {i : Instr} {r : Regs p} {u : Nat}, p.legal = true → i.isWrite = false → Inv u r →
    ∀ io : Inputs p, (latched i r io).wstate = wave p u ∧ Inv (u + io.tick.toNat) (latched i r io)

namespace Timeline

variable {Inv : ∀ {p : Params}, Nat → Regs p → Prop} {wave : Params → Nat → WState}

/-- A run without a WRITE, from registers that `Inv` describes. -/
theorem run (ht : Timeline Inv wave) {s : State} {j u : Nat} (h : s.RunsFor (j + 1))
    (hu : Undisturbed (s.inputs.take (j + 1))) (hs : Inv u s.regs) :
    ∃ t, Host.Core.run core (j + 1) s = .next t ∧
      t.regs.wstate = wave s.cfg (u + tickCount (s.inputs.take j)) ∧ ∃ v, Inv v t.regs := by
  induction j generalizing s u with
  | zero =>
    obtain ⟨⟨-, hcmd⟩, -⟩ := List.forall_mem_cons.mp hu
    obtain ⟨hwave, hinv⟩ := ht.cycle h.legal (decode_commandWord_not_write hcmd) hs s.pins
    rw [← h.regs_afterCommand] at hwave hinv
    exact ⟨s.afterCommand, h.run_afterCommand 0, hwave, _, hinv⟩
  | succ j ih =>
    obtain ⟨⟨-, hcmd⟩, hrest⟩ := List.forall_mem_cons.mp hu
    obtain ⟨-, hinv⟩ := ht.cycle h.legal (decode_commandWord_not_write hcmd) hs s.pins
    rw [← h.regs_afterCommand] at hinv
    rw [h.run_afterCommand, h.tickCount_take_succ, ← Nat.add_assoc]
    exact ih h.afterCommand (by rwa [h.inputs_afterCommand]) hinv

/-- A run that begins with the WRITE itself. -/
theorem run_of_write (ht : Timeline Inv wave) {s : State} {j : Nat} (hl : s.cfg.legal = true) (hr : s.pins.rstN = true)
    (hcmd : s.pins.cmd = 0b001#3) (hj : j < s.sched.length) (hu : Undisturbed (s.sched.take (j + 1)))
    (hs : Inv s.pins.tick.toNat (latched (.write s.pins.note s.pins.dur.toNat) s.regs s.pins)) :
    ∃ t, Host.Core.run core (j + 1) s = .next t ∧
      (t.regs.wstate = if j = 0 then (latched (.write s.pins.note s.pins.dur.toNat) s.regs s.pins).wstate
        else wave s.cfg (tickCount (s.inputs.take j))) ∧
      ∃ v, Inv v t.regs := by
  have h : s.RunsFor (j + 1) := .of_sched hl hr hj fun io hio => (hu io hio).1
  rw [← decode_commandWord_of_write hcmd, ← h.regs_afterCommand] at hs ⊢
  rw [h.run_afterCommand]
  cases j with
  | zero => exact ⟨s.afterCommand, run_zero _, (if_pos rfl).symm, _, hs⟩
  | succ j =>
    have hu' : Undisturbed (s.afterCommand.inputs.take (j + 1)) := by
      rw [h.inputs_afterCommand]
      exact fun io hio => hu io (List.take_subset_take_left _ (Nat.le_succ _) hio)
    rw [if_neg j.succ_ne_zero, h.tickCount_take_succ]
    exact ht.run h.afterCommand hu' hs

end Timeline

/-! ### A rest (43_write_path.md R118) -/

/-- The registers of a rest of `d` units, `u` units after its WRITE. -/
structure Regs.PlaysRest (d : Nat) {p : Params} (u : Nat) (r : Regs p) : Prop where
  sup : r.sup = false
  out : r.out = 0b0000000#7
  wDur : r.wDur.toNat = d
  phase : r.wstate = .restWait ∧ (elapsed r r.noteStamp).toNat = u ∨ r.wstate = .done ∧ d ≤ u

/-- The Write Path's state when `u` time units of a rest of duration `d` were over in the cycle before, which was not the
WRITE's own. -/
def restWaveform (d u : Nat) : WState := if u < d then .restWait else .done

/-- A duration and one pulse period more are below the wrap of the timers (00_scope.md R7). -/
theorem wDur_add_pulsePeriod_lt (hl : p.legal = true) (r : Regs p) : r.wDur.toNat + p.pulsePeriod < 2 ^ p.wT := by
  obtain ⟨-, hwrap⟩ := (legal_iff p).mp hl
  have hdur := r.wDur.isLt
  rw [Params.pulsePeriod]
  omega

theorem two_le_pulsePeriod (p : Params) : 2 ≤ p.pulsePeriod := Nat.le_add_left 2 _

/-- The rest is held below `d` units, over at `d`, and `DONE` from then on. -/
theorem restTimeline (d : Nat) : Timeline (Regs.PlaysRest d) fun _ => restWaveform d := by
  refine ⟨fun {p i r u} hl hi ⟨hsup, hout, hdur, hphase⟩ io => ?_⟩
  have hwrap := wDur_add_pulsePeriod_lt hl r
  have hperiod := two_le_pulsePeriod p
  have htick := io.tick.toNat_le
  obtain ⟨-, hdur', hstamp⟩ := latched_request_of_not_write hi (r := r) io
  have hkept : (latched i r io).wDur.toNat = d := by rw [hdur', hdur]
  rcases hphase with ⟨hrest, hu⟩ | ⟨hdone, hle⟩
  · rcases Nat.lt_or_ge u d with hlt | hle
    · obtain ⟨hw, hs, ho, -⟩ := latched_of_phaseHolds hi (.inr (.inr (.inl ⟨hrest, by omega⟩))) io
      have htimer := latched_elapsed_of_kept i r io hstamp (by omega)
      rw [hrest] at hw
      exact ⟨hw.trans (if_pos hlt).symm, hs.trans hsup, ho.trans hout, hkept, .inl ⟨hw, by rw [htimer, hu]⟩⟩
    · obtain ⟨hw, hs, ho, -⟩ := latched_of_finishDue hi ⟨.inl hrest, by omega⟩ io
      exact ⟨hw.trans (if_neg hle.not_gt).symm, hs.trans hsup, ho.trans hout, hkept, .inr ⟨hw, by omega⟩⟩
  · obtain ⟨hw, hs, ho, -⟩ := latched_of_phaseHolds hi (.inr (.inr (.inr hdone))) io
    rw [hdone] at hw
    exact ⟨hw.trans (if_neg hle.not_gt).symm, hs.trans hsup, ho.trans hout, hkept, .inr ⟨hw, by omega⟩⟩

/-- A WRITE of a rest starts it. -/
theorem latched_write_playsRest (hl : p.legal = true) {note : BitVec 8} (h : 48 < note.toNat) (dur : BitVec p.wDur)
    (r : Regs p) (io : Inputs p) :
    (latched (.write note dur.toNat) r io).PlaysRest dur.toNat io.tick.toNat := by
  obtain ⟨hw, hsup, hout⟩ := latched_write_rest h dur.toNat r io
  obtain ⟨-, hdur, hstamp, -⟩ := latched_write_request note dur.toNat r io
  exact ⟨hsup, hout, by rw [hdur, storedDur_toNat], .inl ⟨hw, latched_elapsed_of_set hl _ io hstamp⟩⟩

/-! ### The waveform of a note in periods (43_write_path.md R116, R117) -/

theorem pulseTotal_pos (p : Params) (d : Nat) : 0 < pulseTotal p d := Nat.lt_of_lt_of_le Nat.one_pos (le_max_left 1 _)

/-- The state at unit `x` of period `m`. -/
theorem noteWaveform_of_period {p : Params} (d m : Nat) {x : Nat} (hx : x < p.pulsePeriod) :
    noteWaveform p d (m * p.pulsePeriod + x) =
      if pulseTotal p d ≤ m then .done else if x ≤ p.tOn then .pulseOn else .pulseOff := by
  have hpos : 0 < p.pulsePeriod := Nat.zero_lt_of_lt hx
  have hdone : pulseTotal p d * p.pulsePeriod ≤ m * p.pulsePeriod + x ↔ pulseTotal p d ≤ m := by
    rw [← Nat.le_div_iff_mul_le hpos, Nat.mul_comm, Nat.mul_add_div hpos, Nat.div_eq_of_lt hx, Nat.add_zero]
  simp only [noteWaveform, hdone, Nat.mul_add_mod', Nat.mod_eq_of_lt hx]

theorem noteWaveform_of_over {p : Params} {d u : Nat} (h : pulseTotal p d * p.pulsePeriod ≤ u) :
    noteWaveform p d u = .done := if_pos h

theorem noteWaveform_on {p : Params} {d m x : Nat} (hm : m < pulseTotal p d) (hx : x ≤ p.tOn) :
    noteWaveform p d (m * p.pulsePeriod + x) = .pulseOn := by
  rw [noteWaveform_of_period d m (by rw [Params.pulsePeriod]; omega), if_neg hm.not_ge, if_pos hx]

theorem noteWaveform_off {p : Params} {d m x : Nat} (hm : m < pulseTotal p d) (hon : p.tOn < x)
    (hx : x < p.pulsePeriod) : noteWaveform p d (m * p.pulsePeriod + x) = .pulseOff := by
  rw [noteWaveform_of_period d m hx, if_neg hm.not_ge, if_neg hon.not_ge]

theorem noteWaveform_zero (p : Params) (d : Nat) : noteWaveform p d 0 = .pulseOn := by
  simpa using noteWaveform_on (pulseTotal_pos p d) p.tOn.zero_le

/-- `K` is the first number of periods, one at least, that covers `d` units. -/
theorem pulseTotal_le_iff (p : Params) (d : Nat) {m : Nat} (hm : 1 ≤ m) :
    pulseTotal p d ≤ m ↔ d ≤ m * p.pulsePeriod := by
  have hpos : 0 < p.pulsePeriod := Nat.zero_lt_of_lt (two_le_pulsePeriod p)
  rw [pulseTotal, max_le_iff, and_iff_right hm, ← Nat.ceilDiv_eq_add_pred_div, ceilDiv_le_iff_le_mul hpos,
    Nat.mul_comm]

/-- Every period of the note starts within its duration. -/
theorem period_start_le {p : Params} {d m : Nat} (h : m < pulseTotal p d) : m * p.pulsePeriod ≤ d := by
  rcases Nat.eq_zero_or_pos m with rfl | hm
  · simp
  · exact Nat.le_of_not_ge fun hd => h.not_ge ((pulseTotal_le_iff p d hm).mpr hd)

/-! ### A note (43_write_path.md R116, R117) -/

/-- Where a note of `d` units is, `u` units after its WRITE. In the on-time of period `m` the pulse timer counts from the
period's start, in its off-time from `T_ON` + 1 units later; at the end of either it is one above its bound. -/
inductive Regs.NotePhase (d : Nat) {p : Params} (u : Nat) (r : Regs p) : Prop where
  | on (m : Nat) (hw : r.wstate = .pulseOn) (hm : m < pulseTotal p d)
      (hu : u = m * p.pulsePeriod + (elapsed r r.pulseStamp).toNat) (hle : (elapsed r r.pulseStamp).toNat ≤ p.tOn + 1)
      (hnote : (elapsed r r.noteStamp).toNat = u)
  | off (m : Nat) (hw : r.wstate = .pulseOff) (hm : m < pulseTotal p d)
      (hu : u = m * p.pulsePeriod + (p.tOn + 1 + (elapsed r r.pulseStamp).toNat))
      (hle : (elapsed r r.pulseStamp).toNat ≤ p.tOff + 1) (hnote : (elapsed r r.noteStamp).toNat = u)
  | finished (hw : r.wstate = .done) (hu : pulseTotal p d * p.pulsePeriod ≤ u)

/-- The registers of the note `n6` of `d` units, `u` units after its WRITE. -/
structure Regs.PlaysNote (n6 : Note) (d : Nat) {p : Params} (u : Nat) (r : Regs p) : Prop where
  bus : r.BusInv
  wNote : r.wNote = n6
  wDur : r.wDur.toNat = d
  phase : r.NotePhase d u

section NoteCycle

variable {i : Instr} {r : Regs p} {d u : Nat} (hi : i.isWrite = false) (hdur : r.wDur.toNat = d) (hl : p.legal = true)
include hi hdur

/-- The period that covers `d` units is the last. -/
theorem Regs.NotePhase.finish (h : r.NotePhase d u) (hdue : finishDue r) (io : Inputs p) :
    (latched i r io).wstate = noteWaveform p d u ∧ (latched i r io).NotePhase d (u + io.tick.toNat) := by
  have hperiod : p.pulsePeriod = p.tOn + p.tOff + 2 := rfl
  obtain ⟨hw', -⟩ := latched_of_finishDue hi hdue io
  obtain ⟨hrest | ⟨hoff, hover⟩, hreached⟩ := hdue
  · cases h with
    | on _ hw | off _ hw | finished hw => cases hw.symm.trans hrest
  · cases h with
    | off m hw hm hu hle hnote =>
      have hnext : u = (m + 1) * p.pulsePeriod := by rw [Nat.add_one_mul]; omega
      have hlast : pulseTotal p d ≤ m + 1 := (pulseTotal_le_iff p d (Nat.le_add_left 1 m)).mpr (by omega)
      have hend : pulseTotal p d * p.pulsePeriod ≤ u := hnext ▸ Nat.mul_le_mul_right _ hlast
      exact ⟨hw'.trans (noteWaveform_of_over hend).symm, .finished hw' (Nat.le_add_right_of_le hend)⟩
    | on _ hw | finished hw => cases hw.symm.trans hoff

include hl

/-- Within a phase both timers count the tick. -/
theorem Regs.NotePhase.hold (h : r.NotePhase d u) (hold : phaseHolds r) (io : Inputs p) :
    (latched i r io).wstate = noteWaveform p d u ∧ (latched i r io).NotePhase d (u + io.tick.toNat) := by
  have hwrap := wDur_add_pulsePeriod_lt hl r
  have hperiod : p.pulsePeriod = p.tOn + p.tOff + 2 := rfl
  have htick := io.tick.toNat_le
  obtain ⟨-, -, hns⟩ := latched_request_of_not_write hi (r := r) io
  obtain ⟨hw', -, -, hps⟩ := latched_of_phaseHolds hi hold io
  cases h with
  | on m hw hm hu _ hnote =>
    have hstart := period_start_le hm
    have hle : (elapsed r r.pulseStamp).toNat ≤ p.tOn := by simpa [phaseHolds, hw] using hold
    have hwave : noteWaveform p d u = .pulseOn := hu ▸ noteWaveform_on hm hle
    have hpulse := latched_elapsed_of_kept i r io hps (by omega)
    have hnote' := latched_elapsed_of_kept i r io hns (by omega)
    rw [hw] at hw'
    exact ⟨hw'.trans hwave.symm, .on m hw' hm (by omega) (by omega) (by omega)⟩
  | off m hw hm hu _ hnote =>
    have hstart := period_start_le hm
    have hle : (elapsed r r.pulseStamp).toNat ≤ p.tOff := by simpa [phaseHolds, hw] using hold
    have hwave : noteWaveform p d u = .pulseOff := hu ▸ noteWaveform_off hm (by omega) (by omega)
    have hpulse := latched_elapsed_of_kept i r io hps (by omega)
    have hnote' := latched_elapsed_of_kept i r io hns (by omega)
    rw [hw] at hw'
    exact ⟨hw'.trans hwave.symm, .off m hw' hm (by omega) (by omega) (by omega)⟩
  | finished hw hu =>
    rw [hw] at hw'
    exact ⟨hw'.trans (noteWaveform_of_over hu).symm, .finished hw' (by omega)⟩

/-- The on-time ends one unit after `T_ON`. -/
theorem Regs.NotePhase.turnOff (h : r.NotePhase d u) (hdue : turnOffDue r) (io : Inputs p) :
    (latched i r io).wstate = noteWaveform p d u ∧ (latched i r io).NotePhase d (u + io.tick.toNat) := by
  have hwrap := wDur_add_pulsePeriod_lt hl r
  have hperiod : p.pulsePeriod = p.tOn + p.tOff + 2 := rfl
  have htick := io.tick.toNat_le
  obtain ⟨-, -, hns⟩ := latched_request_of_not_write hi (r := r) io
  obtain ⟨hw', -, -, hps⟩ := latched_of_turnOffDue hi hdue io
  obtain ⟨hon, hover⟩ := hdue
  cases h with
  | on m hw hm hu hle hnote =>
    have hstart := period_start_le hm
    have hwave : noteWaveform p d u = .pulseOff := hu ▸ noteWaveform_off hm hover (by omega)
    have hpulse := latched_elapsed_of_set hl i io hps
    have hnote' := latched_elapsed_of_kept i r io hns (by omega)
    exact ⟨hw'.trans hwave.symm, .off m hw' hm (by omega) (by omega) (by omega)⟩
  | off _ hw | finished hw => cases hw.symm.trans hon

/-- The off-time ends with the period, of which another follows as long as `d` units are not over. -/
theorem Regs.NotePhase.again (h : r.NotePhase d u) (hdue : repeatDue r) (io : Inputs p) :
    (latched i r io).wstate = noteWaveform p d u ∧ (latched i r io).NotePhase d (u + io.tick.toNat) := by
  have hwrap := wDur_add_pulsePeriod_lt hl r
  have hperiod : p.pulsePeriod = p.tOn + p.tOff + 2 := rfl
  have htick := io.tick.toNat_le
  obtain ⟨-, -, hns⟩ := latched_request_of_not_write hi (r := r) io
  obtain ⟨hw', -, -, hps, -⟩ := latched_of_repeatDue hi hdue io
  obtain ⟨hoff, hover, hlt⟩ := (repeatDue_iff r).mp hdue
  cases h with
  | off m hw hm hu hle hnote =>
    have hnext : u = (m + 1) * p.pulsePeriod + 0 := by rw [Nat.add_one_mul]; omega
    have hm' : m + 1 < pulseTotal p d := by
      rw [← Nat.not_le, pulseTotal_le_iff p d (Nat.le_add_left 1 m)]
      omega
    have hwave : noteWaveform p d u = .pulseOn := hnext ▸ noteWaveform_on hm' p.tOn.zero_le
    have hpulse := latched_elapsed_of_set hl i io hps
    have hnote' := latched_elapsed_of_kept i r io hns (by omega)
    exact ⟨hw'.trans hwave.symm, .on (m + 1) hw' hm' (by omega) (by omega) (by omega)⟩
  | on _ hw | finished hw => cases hw.symm.trans hoff

end NoteCycle

/-- The note is played to its end as the waveform says. -/
theorem noteTimeline (n6 : Note) (d : Nat) : Timeline (Regs.PlaysNote n6 d) fun p => noteWaveform p d := by
  refine ⟨fun {p i r u} hl hi ⟨hbus, hnote, hdur, hphase⟩ io => ?_⟩
  obtain ⟨hnote', hdur', -⟩ := latched_request_of_not_write hi (r := r) io
  obtain ⟨hwave, hphase'⟩ :
      (latched i r io).wstate = noteWaveform p d u ∧ (latched i r io).NotePhase d (u + io.tick.toNat) := by
    rcases due_cases r with hdue | hdue | hdue | hdue
    · exact hphase.hold hi hdur hl hdue io
    · exact hphase.turnOff hi hdur hl hdue io
    · exact hphase.again hi hdur hl hdue io
    · exact hphase.finish hi hdur hdue io
  exact ⟨hwave, latched_busInv i r io hbus, hnote'.trans hnote, by rw [hdur', hdur], hphase'⟩

/-- A WRITE of a note starts it. -/
theorem latched_write_playsNote (hl : p.legal = true) {note : BitVec 8} (h : note.toNat ≤ 48) (dur : BitVec p.wDur)
    (r : Regs p) (io : Inputs p) :
    (latched (.write note dur.toNat) r io).PlaysNote (storedNote note) dur.toNat io.tick.toNat := by
  obtain ⟨hw, -⟩ := latched_write_note h dur.toNat r io
  obtain ⟨hnote, hdur, hstamp, hps⟩ := latched_write_request note dur.toNat r io
  have hpulse := latched_elapsed_of_set hl (.write note dur.toNat) io hps
  have htimer := latched_elapsed_of_set hl (.write note dur.toNat) io hstamp
  have htick := io.tick.toNat_le
  exact ⟨doWrite_busInv _ _ note dur.toNat, hnote, by rw [hdur, storedDur_toNat],
    .on 0 hw (pulseTotal_pos p _) (by omega) (by omega) htimer⟩

/-! ### The obligations -/

/-- Settles O35: the pulse's end is due, or the phase holds. -/
theorem pulseOnEndsAfterTheOnTime : Obligations.PulseOnEndsAfterTheOnTime := by
  intro i s hi hw
  obtain ⟨hnote, hdur, hstamp⟩ := latched_request_of_not_write hi (r := s.regs) s.pins
  refine ⟨_, exec_eq_latched i s, hnote, hdur, hstamp, fun hover => latched_of_turnOffDue hi ⟨hw, hover⟩ s.pins,
    fun hle => ?_⟩
  rw [← hw]
  exact latched_of_phaseHolds hi (.inl ⟨hw, hle⟩) s.pins

/-- Settles O36: the phase holds, the repeat is due, or the note's end is. -/
theorem pulseOffRepeatsOrFinishes : Obligations.PulseOffRepeatsOrFinishes := by
  intro i s hi hw
  obtain ⟨hnote, hdur, hstamp⟩ := latched_request_of_not_write hi (r := s.regs) s.pins
  refine ⟨_, exec_eq_latched i s, hnote, hdur, hstamp, fun hle => ?_, fun hover => ⟨fun hlt => ?_, fun hreached => ?_⟩⟩
  · rw [← hw]
    exact latched_of_phaseHolds hi (.inr (.inl ⟨hw, hle⟩)) s.pins
  · exact latched_of_repeatDue hi ((repeatDue_iff _).mpr ⟨hw, hover, hlt⟩) s.pins
  · exact latched_of_finishDue hi ⟨.inr ⟨hw, hover⟩, hreached⟩ s.pins

/-- Settles O37: the rest's end is due, or the phase (the rest's or `DONE`) holds. -/
theorem restEndsAtItsDurationAndDoneStays : Obligations.RestEndsAtItsDurationAndDoneStays := by
  intro i s hi hw
  obtain ⟨hnote, hdur, hstamp⟩ := latched_request_of_not_write hi (r := s.regs) s.pins
  refine ⟨_, exec_eq_latched i s, hnote, hdur, hstamp, ?_⟩
  rcases hw with hrest | hdone
  · rcases Nat.lt_or_ge (elapsed s.regs s.regs.noteStamp).toNat s.regs.wDur.toNat with hlt | hreached
    · obtain ⟨hw', hsup, hout, hpulse⟩ := latched_of_phaseHolds hi (.inr (.inr (.inl ⟨hrest, hlt⟩))) s.pins
      rw [hrest] at hw'
      exact ⟨hpulse, hsup, hout, iff_of_false (by simp [hw']) (not_or.mpr ⟨by simp [hrest], Nat.not_le.mpr hlt⟩),
        fun _ => hw'⟩
    · obtain ⟨hw', hsup, hout, hpulse⟩ := latched_of_finishDue hi ⟨.inl hrest, hreached⟩ s.pins
      exact ⟨hpulse, hsup, hout, iff_of_true hw' (.inr hreached), absurd hw'⟩
  · obtain ⟨hw', hsup, hout, hpulse⟩ := latched_of_phaseHolds hi (.inr (.inr (.inr hdone))) s.pins
    rw [hdone] at hw'
    exact ⟨hpulse, hsup, hout, iff_of_true hw' (.inl hdone), absurd hw'⟩

/-- Settles O26: a WRITE sets each of these registers from its operands or from `NOW`. -/
theorem writeStartsFresh : Obligations.WriteStartsFresh := by
  intro note dur p r r' io io' q q' c c' hnow
  refine ⟨_, _, exec_eq_latched _ _, exec_eq_latched _ _, ?_⟩
  simp only [latched, doWrite_wstate, doWrite_sup, doWrite_out, doWrite_wNote, doWrite_wDur, doWrite_noteStamp,
    doWrite_pulseStamp, hnow, and_self]

/-- Settles O55: both notes are driven as link frames, whose trigger bit is 1 (30_encoding.md R61). -/
theorem noteWriteDuringAPulseMakesNoEdge : Obligations.NoteWriteDuringAPulseMakesNoEdge := by
  intro note dur s hbus hw hle
  have hsup : s.regs.sup = true := hbus.sup_iff.mpr hw
  have hout : s.regs.out = encodeNote s.regs.wNote := hbus.driven hsup
  obtain ⟨-, hsup', hout'⟩ := latched_write_note hle dur s.regs s.pins
  refine ⟨_, exec_eq_latched _ s, hsup, ?_, hsup', ?_, hout'⟩
  · simp [outputs, hout]
  · simp [outputs, hout']

/-- Settles O46: the WRITE starts the rest, and the rest's timeline gives its state; the lines stay released. -/
theorem restLastsItsDuration : Obligations.RestLastsItsDuration := by
  intro s j hl hr hcmd hnote hj hu
  obtain ⟨hw, -⟩ := latched_write_rest hnote s.pins.dur.toNat s.regs s.pins
  obtain ⟨t, hrun, hwave, v, ht⟩ := (restTimeline _).run_of_write hl hr hcmd hj hu
    (latched_write_playsRest hl hnote s.pins.dur s.regs s.pins)
  refine ⟨t, hrun, ht.sup, ht.out, ?_⟩
  rw [hwave, hw]
  by_cases h0 : j = 0
  · simp only [h0, if_true, true_or]
  · simp only [h0, if_false, false_or, restWaveform]

/-- Settles O47: the WRITE starts the note, and the note's timeline gives its state; the bus invariant gives the lines. -/
theorem noteWaveformInTickUnits : Obligations.NoteWaveformInTickUnits := by
  intro s j hl hr hcmd hnote hj hu
  obtain ⟨hw, -⟩ := latched_write_note hnote s.pins.dur.toNat s.regs s.pins
  obtain ⟨t, hrun, hwave, v, hbus, hnote', -⟩ := (noteTimeline _ _).run_of_write hl hr hcmd hj hu
    (latched_write_playsNote hl hnote s.pins.dur s.regs s.pins)
  refine ⟨t, hrun, ?_, fun hon => ?_, fun hoff => ?_⟩
  · rw [hwave, hw]
    split
    case isTrue h0 =>
      rw [h0]
      exact (noteWaveform_zero s.cfg _).symm
    case isFalse => rfl
  · have hsup : t.regs.sup = true := hbus.sup_iff.mpr hon
    exact ⟨hsup, by rw [hbus.driven hsup, hnote']; rfl⟩
  · have hsup : t.regs.sup = false := Bool.eq_false_iff.mpr (mt hbus.sup_iff.mp hoff)
    exact ⟨hsup, hbus.released hsup⟩

end Sys2Proof.Machine
end

section
/-! PROOFS. The statements from 44_host_commands.md: what selects a command, what it answers, and how its cycle differs
from a NOP's. -/

namespace Sys2Proof

theorem Instr.isQuery_iff (i : Instr) :
    i.isQuery = true ↔ i = .read ∨ i = .isplay ∨ i = .isread ∨ i = .istrig := by
  cases i <;> simp [Instr.isQuery]

theorem Instr.isWrite_eq_false_of_isQuery {i : Instr} (h : i.isQuery = true) : i.isWrite = false := by
  obtain rfl | rfl | rfl | rfl := i.isQuery_iff.mp h <;> rfl

end Sys2Proof

namespace Sys2Proof.Machine

variable {p : Params}

theorem selectedBy_opcode {i : Instr} (hi : i.isWrite = false) : SelectedBy i i.opcode :=
  fun _ _ => decode_eq_iff_of_not_write hi

/-! ### The answers (44_host_commands.md R128 to R131, R133) -/

theorem bitResponse_eq_ite (b : Bool) : bitResponse b = if b then 0x01#8 else 0x00#8 := by
  cases b <;> rfl

theorem bitResponse_toNat (b : Bool) : (bitResponse b).toNat = b.toNat := by
  cases b <;> rfl

theorem readResponse_toNat (r : Regs p) : (readResponse r).toNat = r.curNote.toNat :=
  BitVec.toNat_setWidth_of_le (by decide)

theorem latched_read_rsp (r : Regs p) (io : Inputs p) : (latched .read r io).rsp = readResponse r := by
  simp [latched]

theorem latched_isplay_rsp (r : Regs p) (io : Inputs p) : (latched .isplay r io).rsp = bitResponse (playing r) := by
  simp [latched, isplayResponse]

theorem latched_isread_rsp (r : Regs p) (io : Inputs p) : (latched .isread r io).rsp = bitResponse r.reading := by
  simp [latched, isreadResponse]

theorem latched_istrig_rsp_eq_bitResponse (r : Regs p) (io : Inputs p) :
    (latched .istrig r io).rsp = bitResponse r.triggered :=
  (latched_istrig_rsp r io).trans (bitResponse_eq_ite _).symm

/-- A command that asks nothing keeps `RSP`. -/
theorem latched_rsp_of_not_query {i : Instr} (hi : i.isQuery = false) (r : Regs p) (io : Inputs p) :
    (latched i r io).rsp = r.rsp := by
  cases i with
  | nop | write | rsvd6 | rsvd7 => simp [latched]
  | read | isplay | isread | istrig => cases hi

/-- A query answers a note or one bit, which 6 bits hold. -/
theorem latched_rsp_lt_of_query {i : Instr} (hi : i.isQuery = true) (r : Regs p) (io : Inputs p) :
    (latched i r io).rsp.toNat < 64 := by
  obtain rfl | rfl | rfl | rfl := i.isQuery_iff.mp hi
  · exact latched_read_rsp r io ▸ readResponse_lt r
  · exact latched_isplay_rsp r io ▸ bitResponse_lt _
  · exact latched_isread_rsp r io ▸ bitResponse_lt _
  · exact latched_istrig_rsp_eq_bitResponse r io ▸ bitResponse_lt _

/-! ### A cycle without a WRITE against a NOP cycle -/

/-- The Write Path's own transition reads and writes neither the trigger latch nor the response register. -/
theorem advanceWritePath_withAnswer (r n : Regs p) (trig : Bool) (v : Response) (b : Bool) :
    advanceWritePath r { n with triggered := trig, rsp := v, rspValid := b } =
      { advanceWritePath r n with triggered := trig, rsp := v, rspValid := b } := by
  rcases due_cases r with h | h | h | h
  · simp only [advanceWritePath_of_phaseHolds h]
  · simp only [advanceWritePath_of_turnOffDue h, enterPulseOff]
  · simp only [advanceWritePath_of_repeatDue h, enterPulseOn]
  · simp only [advanceWritePath_of_finishDue h, enterDone]

/-- A command other than WRITE differs from NOP in the trigger latch and the response register only. -/
theorem latched_eq_nop_withAnswer {i : Instr} (hi : i.isWrite = false) {r : Regs p} {io : Inputs p} {trig : Bool}
    {v : Response} {b : Bool} (htrig : (latched i r io).triggered = trig) (hv : (latched i r io).rsp = v)
    (hb : (latched i r io).rspValid = b) :
    latched i r io = { latched .nop r io with triggered := trig, rsp := v, rspValid := b } := by
  subst htrig hv hb
  exact (latched_of_not_write hi r io).trans (advanceWritePath_withAnswer r (noResponse (everyCycle r io)) _ _ _)

/-- A query other than ISTRIG differs from NOP in its answer only. -/
theorem latched_of_query {i : Instr} {r : Regs p} {io : Inputs p} {v : Response} (hv : (latched i r io).rsp = v)
    (hi : i.isQuery = true) (hne : i ≠ .istrig) :
    latched i r io = { latched .nop r io with rsp := v, rspValid := true } := by
  have htrig : (latched i r io).triggered = (latched .nop r io).triggered := by simp [latched_triggered, hne]
  exact latched_eq_nop_withAnswer (Instr.isWrite_eq_false_of_isQuery hi) htrig hv (by rw [latched_rspValid, hi])

/-- ISTRIG consumes the latch, so what it leaves there is the capture of its own cycle. -/
theorem latched_istrig_eq_nop (r : Regs p) (io : Inputs p) :
    latched .istrig r io = { latched .nop r io with
      rsp := if r.triggered then 0x01#8 else 0x00#8, rspValid := true, triggered := captureNow r } :=
  latched_eq_nop_withAnswer rfl (by simp [latched_triggered]) (latched_istrig_rsp r io) (latched_rspValid _ r io)

/-! ### A cycle in an idle block (44_host_commands.md R126) -/

/-- With nothing pending, captured or being read, and no tick, only the input conditioning moves. -/
theorem everyCycle_of_quiet {r : Regs p} {io : Inputs p} (hpending : r.pending = false) (hcap : captureNow r = false)
    (hreading : r.reading = false) (htick : io.tick = false) : everyCycle r io = conditionInputs r r io.linkIn := by
  ext1
  case now => simp [htick]
  case pending | capNote | capTime | triggered => simp [hpending, hcap]
  case reading | relStamp | curNote => simp [hpending, hreading]
  all_goals simp

theorem latched_nop_of_done {r : Regs p} (hdone : r.wstate = .done) (io : Inputs p) :
    latched .nop r io = noResponse (everyCycle r io) :=
  advanceWritePath_of_phaseHolds (.inr (.inr (.inr hdone))) _

/-! ### The obligations -/

/-- Settles O24: the request is loaded whatever the note; the note's class gives the Write Path's state and lines, and
whether the cycle is an entry to `PULSE_ON` gives `CURNOTE`. -/
theorem writeStartsNoteOrRest : Obligations.WriteStartsNoteOrRest := by
  intro note dur s hdur
  obtain ⟨hnote, hwdur, hstamp, hpulse⟩ := latched_write_request note dur s.regs s.pins
  refine ⟨_, exec_eq_latched _ s, ?_, ?_, hstamp, hpulse, latched_rspValid _ _ _, latched_rsp_of_not_query rfl _ _,
    fun hle => ?_, fun hlt => ?_⟩
  · rw [hnote, storedNote_toNat]
  · rw [hwdur, storedDur, BitVec.toNat_ofNat, Nat.mod_eq_of_lt hdur]
  · obtain ⟨hw, hsup, hout⟩ := latched_write_note hle dur s.regs s.pins
    have hentry : PulseOnEntry s.regs (.write note dur) (storedNote note) := ⟨hle, rfl⟩
    exact ⟨hw, hsup, by rw [hout, hnote], by rw [latched_curNote_of_entry hentry, hnote]⟩
  · obtain ⟨hw, hsup, hout⟩ := latched_write_rest hlt dur s.regs s.pins
    have hno : ∀ n, ¬PulseOnEntry s.regs (.write note dur) n := fun _ ⟨hle, _⟩ => Nat.not_lt.mpr hle hlt
    exact ⟨hw, hsup, hout, latched_curNote_of_no_entry hno s.pins⟩

/-- Settles O25: no command decides what these registers latch, but for ISTRIG's clear and a query's answer. -/
theorem writeLeavesTheReadPath : Obligations.WriteLeavesTheReadPath := by
  intro note dur s
  refine ⟨_, _, exec_eq_latched _ s, exec_eq_latched _ s, ?_⟩
  have hrsp : (latched (.write note dur) s.regs s.pins).rsp = (latched .nop s.regs s.pins).rsp := by
    rw [latched_rsp_of_not_query rfl, latched_rsp_of_not_query rfl]
  simp [hrsp, latched_triggered, Instr.isQuery]

/-- Settles O31: `DONE` stays, and the quiet cycle moves the input conditioning only. -/
theorem nopInAnIdleBlockChangesNoOtherRegister : Obligations.NopInAnIdleBlockChangesNoOtherRegister := by
  intro s hdone hpending hcap hreading htick
  rw [exec_eq_latched, latched_nop_of_done hdone, everyCycle_of_quiet hpending hcap hreading htick,
    ← extractLsb'_zero_one]
  rfl

/-- Settles O33: `RSP_VALID` is whether the command is a query; the others keep `RSP`. -/
theorem responseProtocol : Obligations.ResponseProtocol := by
  intro i s
  refine ⟨_, exec_eq_latched i s, ?_⟩
  rw [latched_rspValid]
  exact ⟨i.isQuery_iff, fun h => latched_rsp_of_not_query h _ _, fun h => latched_rsp_lt_of_query h _ _⟩

/-- Settles O7: both are the edge on what the presented command latches. -/
theorem stepExecutesThePresentedCommand : Obligations.StepExecutesThePresentedCommand :=
  fun s hl hr => (step_of_running hl hr).trans (exec_eq_latched _ s).symm

/-- Settles O9: every arm of `exec` is the edge on what the command latches. -/
theorem everyCommandCompletes : Obligations.EveryCommandCompletes := fun i s => ⟨_, exec_eq_latched i s⟩

/-- Settles O27: READ differs from NOP in its answer, the pre-edge `CURNOTE`. -/
theorem readAnswersTheCurrentNote : Obligations.ReadAnswersTheCurrentNote := by
  refine ⟨selectedBy_opcode rfl, fun s => ⟨_, exec_eq_latched .nop s, ?_⟩⟩
  have hrsp := (latched_read_rsp s.regs s.pins).trans (zero_append_curNote s.regs).symm
  rw [exec_eq_latched, latched_of_query hrsp rfl nofun]

/-- Settles O28: ISPLAY differs from NOP in its answer, whether `WSTATE` is not `DONE`. -/
theorem isplayAnswersWhetherPlaying : Obligations.IsplayAnswersWhetherPlaying := by
  refine ⟨selectedBy_opcode rfl, fun s => ⟨_, exec_eq_latched .nop s, ?_⟩⟩
  have hrsp : (latched .isplay s.regs s.pins).rsp = if s.regs.wstate = .done then 0x00#8 else 0x01#8 := by
    rw [latched_isplay_rsp, bitResponse_eq_ite]
    by_cases h : s.regs.wstate = .done <;> simp [playing, h]
  rw [exec_eq_latched, latched_of_query hrsp rfl nofun]

/-- Settles O29: ISREAD differs from NOP in its answer, the pre-edge `READING`. -/
theorem isreadAnswersReading : Obligations.IsreadAnswersReading := by
  refine ⟨selectedBy_opcode rfl, fun s => ⟨_, exec_eq_latched .nop s, ?_⟩⟩
  have hrsp := (latched_isread_rsp s.regs s.pins).trans (bitResponse_eq_ite s.regs.reading)
  rw [exec_eq_latched, latched_of_query hrsp rfl nofun]

/-- Settles O30: ISTRIG differs from NOP in its answer, the pre-edge latch, and in the latch itself. -/
theorem istrigAnswersAndConsumesTheLatch : Obligations.IstrigAnswersAndConsumesTheLatch := by
  refine ⟨selectedBy_opcode rfl, fun s => ⟨_, exec_eq_latched .nop s, ?_⟩⟩
  rw [exec_eq_latched, latched_istrig_eq_nop]

/-- Settles O32: the reserved opcodes have NOP's arm, and NOP asks nothing. -/
theorem reservedOpcodesActAsNop : Obligations.ReservedOpcodesActAsNop :=
  ⟨selectedBy_opcode rfl, selectedBy_opcode rfl, fun s => ⟨rfl, rfl, _, exec_eq_latched .nop s, latched_rspValid _ _ _,
    latched_rsp_of_not_query rfl _ _⟩⟩

/-- Settles O34: each answer is the register, or the function of `WSTATE`, that its output port shows. -/
theorem statusOutputsMatchTheQueries : Obligations.StatusOutputsMatchTheQueries := by
  refine fun s => ⟨_, _, _, _, exec_eq_latched _ s, ?_, exec_eq_latched _ s, ?_, exec_eq_latched _ s, ?_,
    exec_eq_latched _ s, ?_⟩
  · rw [latched_read_rsp]
    exact readResponse_toNat s.regs
  · rw [latched_isplay_rsp]
    exact bitResponse_toNat _
  · rw [latched_isread_rsp]
    exact bitResponse_toNat _
  · rw [latched_istrig_rsp_eq_bitResponse]
    exact bitResponse_toNat _

end Sys2Proof.Machine
end

section
/-! PROOFS. The statement from 60_exceptions.md: a capture in the cycle of a note's WRITE and its delivery. -/

namespace Sys2Proof.Machine

/-- The repeat is due in `PULSE_OFF` only, so in the cycle after a note's WRITE (43_write_path.md R106, R109) nothing but
another WRITE competes with the sync for `CURNOTE`. -/
theorem not_pulseOnEntry_of_pulseOn {p : Params} {i : Instr} (hi : i.isWrite = false) {r : Regs p}
    (hw : r.wstate = .pulseOn) (n : Note) : ¬PulseOnEntry r i n := by
  rw [pulseOnEntry_iff_of_not_write r hi]
  rintro ⟨⟨hoff, -⟩, -⟩
  rw [hw] at hoff
  cases hoff

/-- Settles O56: the WRITE's cycle latches the capture beside the note, and the next one, which has no entry to
`PULSE_ON`, delivers it. -/
theorem captureInTheCycleOfAWriteIsDelivered : Obligations.CaptureInTheCycleOfAWriteIsDelivered := by
  intro p r io0 io1 io2 rest c hl hn hcmd hle hcmd1 hcap s
  have h0 : s.RunsFor 2 := ⟨hl, Nat.le_add_left 2 rest.length, hn⟩
  let t1 := s.afterCommand
  have hregs : t1.regs = latched (.write io0.note io0.dur.toNat) r io0 := by
    rw [h0.regs_afterCommand, decode_commandWord_of_write hcmd]
  obtain ⟨hw, hsup, -⟩ := latched_write_note hle io0.dur.toNat r io0
  have hentry : PulseOnEntry r (.write io0.note io0.dur.toNat) (io0.note.extractLsb' 0 6) := ⟨hle, rfl⟩
  have hcur := latched_curNote_of_entry hentry io0
  rw [← hregs] at hw hsup hcur
  obtain ⟨hpend, htrig, hnote, -⟩ := h0.capture_afterCommand hcap
  obtain ⟨-, hread, -, hdeliver⟩ := h0.afterCommand.sync_afterCommand hpend
  have hnot : (decode p io1.commandWord).isWrite = false := decode_commandWord_not_write hcmd1
  exact ⟨t1, t1.afterCommand, h0.run_eq_iterate (by decide), h0.run_eq_iterate le_rfl, hsup, hpend, htrig, hcur,
    (hdeliver (not_pulseOnEntry_of_pulseOn hnot hw)).trans hnote, hread⟩

end Sys2Proof.Machine
end

section
/-! PROOFS. The statements from 70_reset_and_hazards.md: the bounds of the timers, the looped-back pulse, stretches of
cycles without ticks, and the first cycles after reset. -/

namespace Sys2Proof.Machine

variable {p : Params}

/-! ### One step -/

/-- What holds of the reset registers and of whatever this cycle latches holds after the step. -/
theorem step_gives_of_latched {Q : ∀ {p : Params}, Regs p → Prop} (hreset : ∀ p, Q (Regs.reset p)) {s t : State}
    (hlatched : s.cfg.legal = true → ∀ i, Q (latched i s.regs s.pins)) (hstep : step s = .next t) : Q t.regs := by
  obtain ⟨hl, ⟨-, rfl⟩ | ⟨-, rfl⟩⟩ := step_next_cases hstep
  · exact advance_keeps hreset (hreset _)
  · exact advance_keeps hreset (hlatched hl _)

/-- The listed inputs arrive one by one, in reset too. -/
theorem inputs_advance {s : State} (h : 0 < s.sched.length) (r : Regs s.cfg) : (s.advance r).inputs = s.sched := by
  obtain ⟨io, ios, hs⟩ := List.exists_cons_of_length_pos h
  change s.nextPins :: s.sched.tail = s.sched
  rw [nextPins_cons hs, hs, List.tail_cons]

/-- A run that completes is a step that does and the run from there. -/
theorem run_succ_cases {s t : State} {k : Nat} (h : Host.Core.run core (k + 1) s = .next t) :
    ∃ s', step s = .next s' ∧ Host.Core.run core k s' = .next t := by
  cases hl : s.cfg.legal with
  | true =>
    obtain ⟨hstep, -⟩ := stepIsTotalOnLegalParameters s
    obtain ⟨r, hr⟩ := hstep hl
    exact ⟨_, hr, by rwa [run_of_step k hr] at h⟩
  | false =>
    have hc : core.step s = .refused .illegalParameters := step_of_illegal hl
    simp only [Host.Core.run, hc] at h
    cases h

/-- What every cycle with inputs like these keeps, a run over such inputs without reset keeps. -/
theorem State.RunsFor.iterate_keeps {Q : ∀ {p : Params}, Regs p → Prop} {R : ∀ {p : Params}, Inputs p → Prop}
    (hkeep : ∀ {p : Params} {r : Regs p} {io : Inputs p}, R io → Q r → Q (latched (decode p io.commandWord) r io))
    {s : State} {k n : Nat} (h : s.RunsFor k) (hn : n ≤ k) (hR : ∀ io ∈ s.inputs.take n, R io) (hQ : Q s.regs) :
    Q (State.afterCommand^[n] s).regs := by
  induction n generalizing s k with
  | zero => exact hQ
  | succ n ih =>
    obtain ⟨m, rfl⟩ := Nat.exists_eq_add_one.mpr (Nat.zero_lt_of_lt hn)
    obtain ⟨hio, hrest⟩ := List.forall_mem_cons.mp hR
    rw [Function.iterate_succ_apply]
    refine ih h.afterCommand (Nat.le_of_succ_le_succ hn) (by rwa [h.inputs_afterCommand]) ?_
    rw [h.regs_afterCommand]
    exact hkeep hio hQ

/-! ### The bounds of the timers (70_reset_and_hazards.md R176) -/

/-- The timers that the Write Path's phase compares, within their bounds. -/
inductive Regs.PhaseTimers (r : Regs p) : Prop where
  | done (hw : r.wstate = .done)
  | pulseOn (hw : r.wstate = .pulseOn) (hpulse : (elapsed r r.pulseStamp).toNat ≤ p.tOn + 1)
      (hnote : (elapsed r r.noteStamp).toNat ≤ (r.wDur.toNat - 1) + (elapsed r r.pulseStamp).toNat)
  | pulseOff (hw : r.wstate = .pulseOff) (hpulse : (elapsed r r.pulseStamp).toNat ≤ p.tOff + 1)
      (hnote : (elapsed r r.noteStamp).toNat ≤ (r.wDur.toNat - 1) + (p.tOn + 1) + (elapsed r r.pulseStamp).toNat)
  | restWait (hw : r.wstate = .restWait) (hnote : (elapsed r r.noteStamp).toNat ≤ max r.wDur.toNat 1)

/-- Beside the phase's timers only the release timer is compared. -/
theorem Regs.PhaseTimers.timerInv {r : Regs p} (h : r.PhaseTimers)
    (hrelease : r.reading = true → (elapsed r r.relStamp).toNat ≤ p.tRel + 1) : r.TimerInv := by
  cases h with
  | done hw =>
    constructor
    case release => exact hrelease
    all_goals simp [hw]
  | pulseOn hw hpulse hnote =>
    constructor
    case release => exact hrelease
    all_goals simp [hw, hpulse, hnote]
  | pulseOff hw hpulse hnote =>
    constructor
    case release => exact hrelease
    all_goals simp [hw, hpulse, hnote]
  | restWait hw hnote =>
    constructor
    case release => exact hrelease
    case rest => exact fun _ => hnote
    all_goals simp [hw]

/-- `READING` outlives a cycle by a sync, which restarts the release timer, or while the timer is not over. -/
theorem latched_releaseTimer_le (hl : p.legal = true) (i : Instr) (r : Regs p) (io : Inputs p)
    (hread : (latched i r io).reading = true) :
    (elapsed (latched i r io) (latched i r io).relStamp).toNat ≤ p.tRel + 1 := by
  have htick := io.tick.toNat_le
  cases hp : r.pending with
  | true =>
    rw [latched_releaseTimer_of_sync i hl hp io]
    omega
  | false =>
    obtain ⟨-, hle⟩ := (latched_reading_iff i hp io).mp hread
    rw [latched_releaseTimer i hl hp hle io]
    omega

/-- A WRITE sets both timers. -/
theorem latched_write_phaseTimers (hl : p.legal = true) (note : BitVec 8) (dur : Nat) (r : Regs p) (io : Inputs p) :
    (latched (.write note dur) r io).PhaseTimers := by
  obtain ⟨-, -, hns, hps⟩ := latched_write_request note dur r io
  have hpulse := latched_elapsed_of_set hl (.write note dur) io hps
  have hnote := latched_elapsed_of_set hl (.write note dur) io hns
  have htick := io.tick.toNat_le
  rcases Nat.lt_or_ge 48 note.toNat with hrest | hle
  · obtain ⟨hw, -⟩ := latched_write_rest hrest dur r io
    exact .restWait hw (by omega)
  · obtain ⟨hw, -⟩ := latched_write_note hle dur r io
    exact .pulseOn hw (by omega) (by omega)

section TimerCycle

variable {i : Instr} {r : Regs p} (hi : i.isWrite = false) (hl : p.legal = true) (h : r.TimerInv)
include hi

theorem latched_phaseTimers_of_finishDue (hdue : finishDue r) (io : Inputs p) : (latched i r io).PhaseTimers := by
  obtain ⟨hw, -⟩ := latched_of_finishDue hi hdue io
  exact .done hw

include hl

/-- The pulse timer restarts; the note timer is below the duration. -/
theorem latched_phaseTimers_of_repeatDue (hdue : repeatDue r) (io : Inputs p) : (latched i r io).PhaseTimers := by
  have hwrap := wDur_add_pulsePeriod_lt hl r
  have htick := io.tick.toNat_le
  obtain ⟨-, hdur, hns⟩ := latched_request_of_not_write hi (r := r) io
  obtain ⟨hw', -, -, hps, -⟩ := latched_of_repeatDue hi hdue io
  obtain ⟨-, -, hlt⟩ := (repeatDue_iff r).mp hdue
  have hpulse := latched_elapsed_of_set hl i io hps
  have hnote := latched_elapsed_of_kept i r io hns (by omega)
  exact .pulseOn hw' (by omega) (by rw [hdur]; omega)

include h

/-- A timer that is not over, and the note timer beside it, count at most one unit more. -/
theorem Regs.TimerInv.latched_phaseTimers_of_phaseHolds (hold : phaseHolds r) (io : Inputs p) :
    (latched i r io).PhaseTimers := by
  have hwrap := wDur_add_pulsePeriod_lt hl r
  have hperiod : p.pulsePeriod = p.tOn + p.tOff + 2 := rfl
  have htick := io.tick.toNat_le
  obtain ⟨-, hdur, hns⟩ := latched_request_of_not_write hi (r := r) io
  obtain ⟨hw', -, -, hps⟩ := latched_of_phaseHolds hi hold io
  obtain ⟨hw, hle⟩ | ⟨hw, hle⟩ | ⟨hw, hlt⟩ | hw := hold
  · have hbound := h.note_on hw
    have hpulse := latched_elapsed_of_kept i r io hps (by omega)
    have hnote := latched_elapsed_of_kept i r io hns (by omega)
    exact .pulseOn (hw'.trans hw) (by omega) (by rw [hdur]; omega)
  · have hbound := h.note_off hw
    have hpulse := latched_elapsed_of_kept i r io hps (by omega)
    have hnote := latched_elapsed_of_kept i r io hns (by omega)
    exact .pulseOff (hw'.trans hw) (by omega) (by rw [hdur]; omega)
  · have hnote := latched_elapsed_of_kept i r io hns (by omega)
    exact .restWait (hw'.trans hw) (by rw [hdur]; omega)
  · exact .done (hw'.trans hw)

/-- The pulse timer restarts; the note timer has counted the on-time. -/
theorem Regs.TimerInv.latched_phaseTimers_of_turnOffDue (hdue : turnOffDue r) (io : Inputs p) :
    (latched i r io).PhaseTimers := by
  have hwrap := wDur_add_pulsePeriod_lt hl r
  have hperiod : p.pulsePeriod = p.tOn + p.tOff + 2 := rfl
  have htick := io.tick.toNat_le
  obtain ⟨-, hdur, hns⟩ := latched_request_of_not_write hi (r := r) io
  obtain ⟨hw', -, -, hps⟩ := latched_of_turnOffDue hi hdue io
  obtain ⟨hw, -⟩ := hdue
  have hbound := h.pulse_on hw
  have hbound' := h.note_on hw
  have hpulse := latched_elapsed_of_set hl i io hps
  have hnote := latched_elapsed_of_kept i r io hns (by omega)
  exact .pulseOff hw' (by omega) (by rw [hdur]; omega)

end TimerCycle

theorem Regs.TimerInv.latched_phaseTimers {r : Regs p} (h : r.TimerInv) (hl : p.legal = true) (i : Instr)
    (io : Inputs p) : (latched i r io).PhaseTimers := by
  cases hi : i.isWrite with
  | true =>
    obtain ⟨note, dur, rfl⟩ := isWrite_iff_eq_write.mp hi
    exact latched_write_phaseTimers hl note dur r io
  | false =>
    rcases due_cases r with hdue | hdue | hdue | hdue
    · exact h.latched_phaseTimers_of_phaseHolds hi hl hdue io
    · exact h.latched_phaseTimers_of_turnOffDue hi hl hdue io
    · exact latched_phaseTimers_of_repeatDue hi hl hdue io
    · exact latched_phaseTimers_of_finishDue hi hdue io

theorem latched_timerInv (hl : p.legal = true) {r : Regs p} (h : r.TimerInv) (i : Instr) (io : Inputs p) :
    (latched i r io).TimerInv :=
  (h.latched_phaseTimers hl i io).timerInv (latched_releaseTimer_le hl i r io)

/-! ### The looped-back pulse (70_reset_and_hazards.md R177) -/

/-- A high sample in the second stage was taken under the guard or makes no edge. -/
theorem Regs.LoopbackInv.captureNow_eq_false {r : Regs p} (h : r.LoopbackInv) : captureNow r = false := by
  cases hs : triggerBit r.sync2 with
  | false => exact captureNow_of_trigger_low hs
  | true =>
    rcases h.second hs with hguard | hprev
    · exact captureNow_of_guard (by simp [guardActive, hguard])
    · exact captureNow_of_prev_high hprev

/-- The samples and `SUP` move through their pipelines side by side. -/
theorem latched_loopbackInv {r : Regs p} (h : r.LoopbackInv) {io : Inputs p}
    (hio : triggerBit io.linkIn = true → r.sup = true) (i : Instr) : (latched i r io).LoopbackInv where
  second hs := by
    rw [latched_sync2] at hs
    rw [latched_supD_one, latched_trigPrev]
    exact h.first hs
  first hs := by
    rw [latched_sync1] at hs
    rw [latched_supD_zero]
    exact .inl (hio hs)

/-! ### Cycles without a tick (70_reset_and_hazards.md R175) -/

theorem latched_now_of_no_tick {io : Inputs p} (h : io.tick = false) (i : Instr) (r : Regs p) :
    (latched i r io).now = r.now := by
  simp [h]

/-- The hypothesis of R175 is that the phase holds. -/
theorem phaseHolds_iff (r : Regs p) :
    phaseHolds r ↔ (r.wstate = .pulseOn ∧ pulseOnOver r = false) ∨ (r.wstate = .pulseOff ∧ pulseOffOver r = false) ∨
      (r.wstate = .restWait ∧ durationReached r = false) ∨ r.wstate = .done := by
  simp only [phaseHolds, ← Bool.not_eq_true, pulseOnOver_iff, pulseOffOver_iff, durationReached_iff, Nat.not_lt,
    Nat.not_le]

/-- A phase that is not over, and the state and the lines it holds. -/
structure Regs.HoldsPhase (w : WState) (sup : Bool) (out : Lines) {p : Params} (r : Regs p) : Prop where
  phase : phaseHolds r
  wstate : r.wstate = w
  sup : r.sup = sup
  out : r.out = out

/-- Without a tick no timer moves, so a phase that is not over is not over in the next cycle. -/
theorem latched_phaseHolds_of_no_tick {i : Instr} (hi : i.isWrite = false) {r : Regs p} (h : phaseHolds r)
    {io : Inputs p} (htick : io.tick = false) : phaseHolds (latched i r io) := by
  obtain ⟨-, hdur, hns⟩ := latched_request_of_not_write hi (r := r) io
  obtain ⟨hw, -, -, hps⟩ := latched_of_phaseHolds hi h io
  have hnow := latched_now_of_no_tick htick i r
  unfold phaseHolds elapsed at h ⊢
  rwa [hw, hnow, hps, hns, hdur]

theorem Regs.HoldsPhase.latched {i : Instr} (hi : i.isWrite = false) {w : WState} {sup : Bool} {out : Lines}
    {r : Regs p} (h : r.HoldsPhase w sup out) {io : Inputs p} (htick : io.tick = false) :
    (latched i r io).HoldsPhase w sup out := by
  obtain ⟨hw, hsup, hout, -⟩ := latched_of_phaseHolds hi h.phase io
  exact ⟨latched_phaseHolds_of_no_tick hi h.phase htick, hw.trans h.wstate, hsup.trans h.sup, hout.trans h.out⟩

/-- `READING` is 1 and its release timer is not over. -/
def Regs.HoldsReading (r : Regs p) : Prop := r.reading = true ∧ (elapsed r r.relStamp).toNat ≤ p.tRel

/-- Without a tick a sync's timer reads 0, and any other stands still. -/
theorem Regs.HoldsReading.latched {r : Regs p} (h : r.HoldsReading) {io : Inputs p} (htick : io.tick = false)
    (i : Instr) : (latched i r io).HoldsReading := by
  obtain ⟨hread, hle⟩ := h
  have hnow := latched_now_of_no_tick htick i r
  cases hp : r.pending with
  | true =>
    obtain ⟨-, hread', hstamp⟩ := latched_of_sync i hp io
    refine ⟨hread', ?_⟩
    rw [elapsed, hnow, hstamp, BitVec.sub_self, BitVec.toNat_zero]
    exact Nat.zero_le _
  | false =>
    refine ⟨(latched_reading_iff i hp io).mpr ⟨hread, hle⟩, ?_⟩
    have hstamp : (Machine.latched i r io).relStamp = r.relStamp := by simp [hp]
    rwa [elapsed, hnow, hstamp]

/-! ### The first cycles after reset (70_reset_and_hazards.md R163) -/

/-- The trigger samples are high that `TRIG_PREV` holds in this cycle and the following ones, `n` cycles in all, up to the
three that are in the pipeline. -/
structure Regs.TriggerHighFor (n : Nat) {p : Params} (r : Regs p) : Prop where
  prev : 1 ≤ n → r.trigPrev = true
  second : 2 ≤ n → triggerBit r.sync2 = true
  first : 3 ≤ n → triggerBit r.sync1 = true

theorem reset_triggerHighFor (n : Nat) (p : Params) : (Regs.reset p).TriggerHighFor n where
  prev _ := rfl
  second _ := by simp [Regs.reset, triggerBit]
  first _ := by simp [Regs.reset, triggerBit]

/-- The samples move on by one cycle, and the line's comes last. -/
theorem Regs.TriggerHighFor.latched {n : Nat} {r : Regs p} (h : r.TriggerHighFor (n + 1)) {io : Inputs p}
    (hio : 3 ≤ n → triggerBit io.linkIn = true) (i : Instr) : (latched i r io).TriggerHighFor n where
  prev hn := by
    rw [latched_trigPrev]
    exact h.second (by omega)
  second hn := by
    rw [latched_sync2]
    exact h.first (by omega)
  first hn := by
    rw [latched_sync1]
    exact hio hn

/-- The pipeline holds three samples, so no `n` asks for more than `n` = 3 does. -/
theorem Regs.TriggerHighFor.of_three {r : Regs p} (h : r.TriggerHighFor 3) (n : Nat) : r.TriggerHighFor n :=
  ⟨fun _ => h.prev (by decide), fun _ => h.second (by decide), fun _ => h.first (by decide)⟩

/-- Whatever the inputs, the three samples of the pipeline go through it. -/
theorem run_triggerHighFor {s t : State} {k n : Nat} (hn : n + k ≤ 3) (hs : s.regs.TriggerHighFor (n + k))
    (hrun : Host.Core.run core k s = .next t) : t.regs.TriggerHighFor n := by
  induction k generalizing s with
  | zero =>
    obtain rfl : s = t := Host.Outcome.next.inj hrun
    exact hs
  | succ k ih =>
    obtain ⟨s', hstep, hrun'⟩ := run_succ_cases hrun
    have hs' : s'.regs.TriggerHighFor (n + k) :=
      step_gives_of_latched (reset_triggerHighFor _) (fun _ => hs.latched (n := n + k) (by omega)) hstep
    exact ih (by omega) hs' hrun'

/-- With the trigger high, resets among the cycles or not, the pipeline stays full of high samples. -/
theorem run_triggerHighFor_three {s : State} {k : Nat} (hl : s.cfg.legal = true) (hk : k ≤ s.sched.length)
    (hin : ∀ io ∈ s.inputs.take k, triggerBit io.linkIn = true) (hs : s.regs.TriggerHighFor 3) :
    ∃ t, Host.Core.run core k s = .next t ∧ t.regs.TriggerHighFor 3 := by
  induction k generalizing s with
  | zero => exact ⟨s, run_zero s, hs⟩
  | succ k ih =>
    obtain ⟨hio, hrest⟩ := List.forall_mem_cons.mp hin
    obtain ⟨hstep, -⟩ := stepIsTotalOnLegalParameters s
    obtain ⟨r, hr⟩ := hstep hl
    rw [run_of_step k hr]
    have hk' : k ≤ s.sched.tail.length := by
      rw [List.length_tail]
      omega
    exact ih hl hk' (by rwa [inputs_advance (by omega) r])
      (step_gives_of_latched (reset_triggerHighFor 3) (fun _ => (hs.of_three 4).latched fun _ => hio) hr)

/-- The block is not transmitting, and the guard is 0. -/
structure Regs.Silent (r : Regs p) : Prop where
  done : r.wstate = .done
  guard : guardActive r = false

theorem reset_silent (p : Params) : (Regs.reset p).Silent := ⟨rfl, by simp [guardActive, Regs.reset]⟩

/-- `DONE` is left by a WRITE only, and with `SUP` = 0 the guard pipeline takes a 0. -/
theorem Regs.Silent.latched {i : Instr} (hi : i.isWrite = false) {r : Regs p} (h : r.Silent) (io : Inputs p) :
    (latched i r io).Silent := by
  obtain ⟨hsup, hd, -⟩ := (guardActive_eq_false_iff r).mp h.guard
  obtain ⟨hw, hs, -⟩ := latched_of_phaseHolds hi (.inr (.inr (.inr h.done))) io
  refine ⟨hw.trans h.done, (guardActive_eq_false_iff _).mpr ⟨hs.trans hsup, ?_, ?_⟩⟩
  · rw [latched_supD_zero, hsup]
  · rw [latched_supD_one, hd]

/-- Without a WRITE `PULSE_ON` is entered from `PULSE_OFF` only. -/
theorem not_pulseOnEntry_of_not_pulseOff {i : Instr} (hi : i.isWrite = false) {r : Regs p} (hw : r.wstate ≠ .pulseOff)
    (n : Note) : ¬PulseOnEntry r i n := by
  rw [pulseOnEntry_iff_of_not_write r hi]
  rintro ⟨⟨hoff, -⟩, -⟩
  exact hw hoff

theorem Regs.Silent.not_pulseOff {r : Regs p} (h : r.Silent) : r.wstate ≠ .pulseOff := by
  simp [h.done]

theorem outputs_reset (p : Params) : outputs (Regs.reset p) =
    { linkOut := 0#7, linkOe := false, note := 0#6, playing := false, reading := false, irq := false,
      evtTime := 0#p.wT, rsp := 0#8, rspValid := false } := rfl

/-! ### The obligations -/

/-- Settles O41: the phase's timers and the release timer stay within their bounds in every case of a cycle; R7 puts the
bounds below the wrap. -/
theorem stepKeepsTimersBelowTheWrap : Obligations.StepKeepsTimersBelowTheWrap := by
  refine ⟨fun s t hs hstep => step_gives_of_latched reset_timerInv
    (fun hl i => latched_timerInv hl hs i s.pins) hstep, fun p hl d => ?_⟩
  obtain ⟨-, hwrap⟩ := (legal_iff p).mp hl
  have hrel := tRel_succ_lt_of_legal hl
  have hdur := d.isLt
  omega

/-- Settles O43: the samples of the own pulse are under the guard until they are the edge detector's previous ones. -/
theorem ownPulseIsNeverCaptured : Obligations.OwnPulseIsNeverCaptured :=
  ⟨fun _ _ h => h.captureNow_eq_false, fun _ _ hs hio hstep =>
    step_gives_of_latched reset_loopbackInv (fun _ => latched_loopbackInv hs hio) hstep⟩

/-- Settles O49: no timer moves, so what is not over stays so, cycle by cycle. -/
theorem withoutTicksTheTimedStatesHold : Obligations.WithoutTicksTheTimedStatesHold := by
  intro s k hl hk hu hn
  have h : s.RunsFor k := ⟨hl, hk, fun io hio => (hu io hio).1⟩
  have hquiet : ∀ io ∈ s.inputs.take k, io.tick = false ∧ io.cmd ≠ 0b001#3 := fun io hio =>
    have hmem := List.take_subset_take_left _ (Nat.le_succ k) hio
    ⟨hn io hmem, (hu io hmem).2⟩
  refine ⟨_, h.run_eq_iterate le_rfl, fun hphase => ?_, fun hread hover => ?_⟩
  · have hs : s.regs.HoldsPhase s.regs.wstate s.regs.sup s.regs.out := ⟨(phaseHolds_iff _).mpr hphase, rfl, rfl, rfl⟩
    obtain ⟨-, hw, hsup, hout⟩ := h.iterate_keeps (R := fun io => io.tick = false ∧ io.cmd ≠ 0b001#3)
      (fun ⟨htick, hcmd⟩ hr => hr.latched (decode_commandWord_not_write hcmd) htick) le_rfl hquiet hs
    exact ⟨hw, hsup, hout⟩
  · have hs : s.regs.HoldsReading :=
      ⟨hread, Nat.not_lt.mp (mt (releaseOver_iff _).mpr (Bool.eq_false_iff.mp hover))⟩
    obtain ⟨hread', -⟩ := h.iterate_keeps (R := fun io => io.tick = false ∧ io.cmd ≠ 0b001#3)
      (fun ⟨htick, _⟩ hr => hr.latched htick _) le_rfl hquiet hs
    exact hread'

/-- Settles O52: the two samples make the edge in cycle 4, in which the guard is 0 because nothing was ever driven; the
sync of cycle 5 has no other writer of `CURNOTE` beside it. -/
theorem earliestCaptureIsInCycleFour : Obligations.EarliestCaptureIsInCycleFour := by
  intro p io1 io2 io3 io4 io5 io6 rest c hl hu hlow hhigh s
  have h0 : s.RunsFor 5 := ⟨hl, Nat.le_add_left 5 rest.length, fun io hio => (hu io hio).1⟩
  have h3 : s.afterCommand.afterCommand.afterCommand.RunsFor 2 := h0.afterCommand.afterCommand.afterCommand
  let t4 := s.afterCommand.afterCommand.afterCommand
  let t5 := t4.afterCommand
  have hcmd : ∀ io ∈ s.inputs.take 6, io.cmd ≠ 0b001#3 := fun io hio => (hu io hio).2
  have hsilent : ∀ n ≤ 5, (State.afterCommand^[n] s).regs.Silent := fun n hn =>
    h0.iterate_keeps (fun hio hr => hr.latched (decode_commandWord_not_write hio) _) hn
      (fun io hio => hcmd io (List.take_subset_take_left _ (by omega) hio)) (reset_silent p)
  obtain ⟨hedge, hempty⟩ : triggerEdge t4.regs = true ∧ t4.regs.pending = false := h0.edge_after_three hlow hhigh
  have hguard : guardActive t4.regs = false := (hsilent 3 (by decide)).guard
  have hcap : captureNow t4.regs = true := by simp [captureNow, hedge, hguard, hempty]
  obtain ⟨hpend, htrig, hnote, -⟩ : t5.regs.pending = true ∧ t5.regs.triggered = true ∧
    t5.regs.capNote = decodeNote t4.regs.sync2 ∧ _ := h3.capture_afterCommand hcap
  obtain ⟨-, -, -, hcur⟩ := h3.afterCommand.sync_afterCommand hpend
  have hnot : (decode p io5.commandWord).isWrite = false :=
    decode_commandWord_not_write (hcmd io5 (by simp [s, State.inputs]))
  have hentry := not_pulseOnEntry_of_not_pulseOff hnot (hsilent 4 (by decide)).not_pulseOff
  have hsync : t4.regs.sync2 = io2.linkIn := h0.afterCommand.sync2_after_two
  rw [hsync] at hnote
  exact ⟨t4, t5, t5.afterCommand, h0.run_eq_iterate (by decide), hcap, h0.run_eq_iterate (by decide), htrig,
    h0.run_eq_iterate le_rfl, (hcur hentry).trans hnote⟩

/-- Settles O53: the samples at reset are high, and every later one is. -/
theorem highTriggerSinceResetNeverCaptures : Obligations.HighTriggerSinceResetNeverCaptures := by
  intro s k hl hs hk hin
  obtain ⟨t, hrun, ht⟩ := run_triggerHighFor_three hl hk hin (hs ▸ reset_triggerHighFor 3 s.cfg)
  exact ⟨t, hrun, captureNow_of_prev_high (ht.prev (by decide))⟩

/-- Settles O15: the registers are at their reset values (O13), and the outputs are functions of them. -/
theorem outputsAreZeroDuringReset : Obligations.OutputsAreZeroDuringReset := by
  intro s t hstep hrst
  obtain ⟨-, hheld, -⟩ := resetValuesOfEveryRegister
  have hout : t.outputs = _ := (congrArg outputs (hheld s t hstep hrst)).trans (outputs_reset t.cfg)
  rw [hout]
  exact ⟨rfl, rfl, rfl, rfl, rfl, rfl, BitVec.toNat_zero, rfl, rfl⟩

/-- Settles O51: the three samples in the pipeline at reset are high. -/
theorem noCaptureInTheFirstThreeCycles : Obligations.NoCaptureInTheFirstThreeCycles := by
  intro s hs k hk t hrun
  have ht := run_triggerHighFor (n := 1) (by omega) (hs ▸ reset_triggerHighFor (1 + k) s.cfg) hrun
  exact captureNow_of_prev_high (ht.prev le_rfl)

end Sys2Proof.Machine
end
